-- ==== Sys2Proof/Word.lean ====
section
/-! DEFINITION. The word types of the machine: the byte the bus moves and the 16-bit register pair (R6, R8), and
the two-bit shade of a pixel (R431). -/

namespace Sys2Proof

/-- A byte: the width of every bus access and of the registers `A` to `L` (R6). -/
abbrev Byte := BitVec 8

/-- A 16-bit word: an address, `SP`, `pc`, or a register pair (R6, R20). -/
abbrev Word := BitVec 16

/-- A shade of grey, 0 the lightest (R431). -/
abbrev Shade := BitVec 2

end Sys2Proof
end

