-- ==== Sys2Proof/Config.lean ====
section
/-! DEFINITION. What an implementation fixes: the parameters of R7 that have a default (held in the state as plain
data that no step changes, log 5), and the free values, constants without a body about which nothing can be proved. -/

namespace Sys2Proof

/-- What `STOP_WAKE` is (R7, R334, log 6): one of the two predicates that the spec names, or any other. -/
inductive StopWake where
  /-- never true: the default -/
  | never
  /-- "any of the four `JoypLines()` bits is 0" -/
  | joypadLine
  /-- any other predicate over the state: the free `Machine.Config.stopWake` -/
  | other
  deriving DecidableEq, Repr

/-- One change to the table `COST` (R7): the cost, in machine cycles, of one opcode byte of one page, for a
transfer that is taken or not (log 7). -/
structure CostEntry where
  opcode        : Byte
  prefixed      : Bool
  taken         : Bool
  machineCycles : Nat
  deriving DecidableEq, Repr

/-- The parameters of R7 that have a default value. -/
structure Params where
  /-- `RETI_DELAYED` (R322) -/
  retiDelayed            : Bool
  /-- `HALT_BUG_CLASSIC` (R332) -/
  haltBugClassic         : Bool
  /-- `STOP_WAKE` (R334) -/
  stopWake               : StopWake
  /-- `TIMA_WRITE_CANCELS_RELOAD` (R410) -/
  timaWriteCancelsReload : Bool
  /-- `MODE3_LEN` in clock cycles (R436) -/
  mode3Len               : Nat
  /-- the changes to `COST` (R160, R161) -/
  costChanges            : List CostEntry
  deriving DecidableEq, Repr

/-- How many whole seconds `RTC_NOW` moves on before its `n`-th sample (R545, log 10): free, so the samples are any
non-decreasing sequence. -/
opaque Config.freeSeconds : Nat → Nat

/-- The high-pass constant of R497 is `(p + 1) / (p + q + 2)` for free `p` and `q`: any rational number strictly
between 0 and 1 (log 13). -/
opaque Config.filterGain : Nat

/-- See `Config.filterGain`. -/
opaque Config.filterLoss : Nat

/-- The numeric format and scale of an audio sample (R497, log 13): free. -/
opaque Config.sampleFormat : Rat → Int

/-- `AUDIO_FRAME_LEN` less one (R7, R495, log 13): free, so the length is any positive number. -/
opaque Config.audioFrameLenPred : Nat

end Sys2Proof
end

