-- ==== Sys2Proof/WellFormed.lean ====
section
/-! DEFINITION. Which terms of `Instr` are instructions of the opcode table: the argument of `illegal` is one of the
eleven opcodes of R146. Every other constructor's argument is an immediate with no reserved value (R144, R146). -/

namespace Sys2Proof

/-- The eleven opcodes of R146. -/
def illegalOpcodes : List Byte :=
  [0xD3, 0xDB, 0xDD, 0xE3, 0xE4, 0xEB, 0xEC, 0xED, 0xF4, 0xFC, 0xFD]

/-- An instruction is well formed when, if it is `illegal op`, `op` is one of the eleven opcodes. -/
def Instr.wellFormed : Instr → Bool
  | .illegal op => illegalOpcodes.contains op
  | _ => true

end Sys2Proof
end

