-- ==== Sys2Proof/Machine/Bits.lean ====
section
/-! DEFINITION. The bit-field helpers of the notation of R8. -/

namespace Sys2Proof.Machine

/-- `sext_16(b)`: a byte read as two's complement, as a 16-bit word (R8). -/
def sext16 (b : Byte) : Word := b.signExtend 16

/-- `zext_16(b)` (R8). -/
def zext16 (b : Byte) : Word := b.setWidth 16

/-- The address `0xFF00 + b` (R144). -/
def highPage (b : Byte) : Word := 0xFF00 + zext16 b

/-- `v[3:0]`, as a number. -/
def lowNibble (v : Byte) : Nat := v.toNat % 16

/-- The bit `b` at position `n` of a byte, every other bit 0. -/
def bitAt (n : Nat) (b : Bool) : Byte := if b then BitVec.ofNat 8 (2 ^ n) else 0

/-- `f` applied `n` times. -/
def iterate {α : Type} (f : α → α) : Nat → α → α
  | 0, a => a
  | n + 1, a => iterate f n (f a)

end Sys2Proof.Machine
end

