-- ==== Sys2Proof/Machine/Defaults.lean ====
section
/-! DEFINITION. The default parameters of R7. -/

namespace Sys2Proof.Machine

/-- The defaults of R7 (log 5). -/
def defaultParams : Params :=
  { retiDelayed := false
    haltBugClassic := false
    stopWake := .never
    timaWriteCancelsReload := false
    mode3Len := 172
    costChanges := [] }

/-- What R7 asks of the parameters: `MODE3_LEN` a multiple of 4 in 172 to 288; every cost a positive multiple of 4,
that is a positive number of machine cycles. -/
def validParams (p : Params) : Bool :=
  p.mode3Len % 4 = 0 && 172 ≤ p.mode3Len && p.mode3Len ≤ 288 &&
    p.costChanges.all fun e => decide (0 < e.machineCycles)

end Sys2Proof.Machine
end

