-- ==== Sys2Proof/Machine/Memory.lean ====
section
/-! DEFINITION. One array of bytes (R41), as the list of its listed cells in one canonical form: offsets strictly
rising, and no cell that holds what an unlisted offset reads as. -/

namespace Sys2Proof.Machine

/-- An array of bytes, by offset. -/
abbrev Memory := List Host.Cell

/-- What an offset that no cell lists reads as: the byte of a memory nothing has written (R41 leaves it unspecified;
DESIGN CHOICE, log 2). -/
def Memory.fill : Byte := 0

/-- The byte at an offset. -/
def Memory.read : Memory → Nat → Byte
  | [], _ => Memory.fill
  | (k, v) :: m, a => if k = a then v else Memory.read m a

/-- Storing a byte at an offset, keeping the canonical form. -/
def Memory.write : Memory → Nat → Byte → Memory
  | [], a, v => if v = Memory.fill then [] else [(a, v)]
  | (k, w) :: m, a, v =>
    if a < k then
      if v = Memory.fill then (k, w) :: m else (a, v) :: (k, w) :: m
    else if a = k then
      if v = Memory.fill then m else (a, v) :: m
    else (k, w) :: Memory.write m a v

/-- The canonical form. -/
def Memory.wf : Memory → Bool
  | [] => true
  | (k, v) :: m => v ≠ Memory.fill && m.all (fun c => decide (k < c.1)) && Memory.wf m

/-- Every listed offset is below `n`. -/
def Memory.within (n : Nat) (m : Memory) : Bool := m.all fun c => decide (c.1 < n)

/-- The array that holds the given bytes from offset `k` on. -/
def Memory.ofBytes (k : Nat) : List Byte → Memory
  | [] => []
  | v :: vs => if v = Memory.fill then Memory.ofBytes (k + 1) vs else (k, v) :: Memory.ofBytes (k + 1) vs

end Sys2Proof.Machine
end

