-- ==== Sys2Proof/Machine/State.lean ====
section
/-! DEFINITION. The state of the machine, as plain data: every piece of state of 10_state.md and of the device files,
the reasons a step can stop, and the state right after a `power_on` reset (R49, R560). -/

namespace Sys2Proof.Machine

/-! ## The CPU -/

/-- The flags: bits 7 to 4 of `F`. Bits 3:0 always read 0, so the register holds no more (R22, log 18). -/
structure Flags where
  z : Bool
  n : Bool
  h : Bool
  c : Bool
  deriving DecidableEq, Repr

/-- The CPU register file (R20 to R26). -/
structure Regs where
  a  : Byte
  f  : Flags
  b  : Byte
  c  : Byte
  d  : Byte
  e  : Byte
  h  : Byte
  l  : Byte
  sp : Word
  pc : Word
  deriving DecidableEq, Repr

/-- The reason of a fatal fault and its info (R370). -/
inductive FatalReason where
  /-- `IllegalOpcode`: the opcode and its address (R340, R370; under the halt quirk, log 23) -/
  | illegalOpcode (op : Byte) (address : Word)
  /-- `DmaOverlap`: the source page (R112) -/
  | dmaOverlap (page : Byte)
  deriving DecidableEq, Repr

/-- `cpu_state` (R29). -/
inductive CpuState where
  | running
  | halted
  | stopped
  | faulted (reason : FatalReason)
  deriving DecidableEq, Repr

/-! ## Timer and joypad -/

/-- The timer block (R36 to R40). -/
structure Timer where
  /-- `DIV`, all 16 bits -/
  div      : Word
  /-- `div_last` -/
  divLast  : Word
  /-- `TIMA` -/
  tima     : Byte
  /-- `TMA` -/
  tma      : Byte
  /-- `TAC`: bit 2 enable, bits 1:0 the tap selection -/
  tac      : BitVec 3
  /-- `tima_overflow` -/
  overflow : Bool
  deriving DecidableEq, Repr

/-- `JOYPAD`: the eight button lines, 1 = pressed (R102). -/
structure Buttons where
  /-- bits 3 Down, 2 Up, 1 Left, 0 Right -/
  direction : BitVec 4
  /-- bits 3 Start, 2 Select, 1 B, 0 A -/
  action    : BitVec 4
  deriving DecidableEq, Repr

/-! ## PPU -/

/-- `ppu_mode` (R433, R436). -/
inductive PpuMode where
  /-- mode 0 -/
  | hblank
  /-- mode 1 -/
  | vblank
  /-- mode 2 -/
  | oamScan
  /-- mode 3 -/
  | transfer
  deriving DecidableEq, Repr

/-- A frame buffer: the rows drawn so far, by line, each 160 shades; what a line with no row holds is unspecified (R433,
R446, log 19). -/
abbrev Frame := List (Nat × List Shade)

/-- The PPU: registers (R431, R432) and hidden state (R433). -/
structure Ppu where
  lcdc              : Byte
  /-- bits 6:3 of `STAT` -/
  statEnables       : BitVec 4
  scy               : Byte
  scx               : Byte
  lyc               : Byte
  bgp               : Byte
  obp0              : Byte
  obp1              : Byte
  wy                : Byte
  wx                : Byte
  /-- `display_enable_time` -/
  displayEnableTime : Nat
  /-- `ppu_line` -/
  line              : Nat
  /-- `ppu_mode` -/
  mode              : PpuMode
  /-- `vram_access` -/
  vramAccess        : Bool
  /-- `oam_access` -/
  oamAccess         : Bool
  /-- `stat_line` -/
  statLine          : Bool
  /-- `swallow_frame` -/
  swallowFrame      : Bool
  /-- the private frame buffer -/
  frame             : Frame
  /-- the last published frame -/
  published         : Option Frame
  /-- `frames_published` -/
  framesPublished   : Nat
  deriving DecidableEq, Repr

/-! ## APU -/

/-- The twenty stored bytes `NR10` to `NR51` (R481). -/
structure ApuRegs where
  nr10 : Byte
  nr11 : Byte
  nr12 : Byte
  nr13 : Byte
  nr14 : Byte
  nr21 : Byte
  nr22 : Byte
  nr23 : Byte
  nr24 : Byte
  nr30 : Byte
  nr31 : Byte
  nr32 : Byte
  nr33 : Byte
  nr34 : Byte
  nr41 : Byte
  nr42 : Byte
  nr43 : Byte
  nr44 : Byte
  nr50 : Byte
  nr51 : Byte
  deriving DecidableEq, Repr

/-- Hidden state of a pulse channel, 1 or 2 (R484). -/
structure Pulse where
  on       : Bool
  len      : Nat
  timer    : Nat
  vol      : BitVec 4
  envTimer : Nat
  dutyPos  : BitVec 3
  /-- the duty in use: `NRn1[7:6]` as it was at the last reload of the timer (R482; DESIGN CHOICE, log 22) -/
  duty     : BitVec 2
  deriving DecidableEq, Repr

/-- The sweep unit of channel 1 (R484). -/
structure Sweep where
  timer  : Nat
  on     : Bool
  shadow : BitVec 11
  deriving DecidableEq, Repr

/-- Hidden state of channel 3 (R484). -/
structure Wave where
  on     : Bool
  len    : Nat
  timer  : Nat
  pos    : BitVec 5
  sample : BitVec 4
  deriving DecidableEq, Repr

/-- Hidden state of channel 4 (R484). -/
structure Noise where
  on       : Bool
  len      : Nat
  timer    : Nat
  vol      : BitVec 4
  envTimer : Nat
  lfsr     : BitVec 15
  deriving DecidableEq, Repr

/-- A stereo sample, left and right (R497, log 13). -/
abbrev Sample := Int × Int

/-- The APU (R481, R484), wave RAM excepted. -/
structure Apu where
  power     : Bool
  regs      : ApuRegs
  ch1       : Pulse
  sweep     : Sweep
  ch2       : Pulse
  ch3       : Wave
  ch4       : Noise
  seqDiv    : Nat
  seqPos    : BitVec 3
  sampleAcc : Nat
  capLeft   : Rat
  capRight  : Rat
  /-- the audio frame being filled -/
  frame     : List Sample
  /-- the queue of published audio frames, oldest first -/
  published : List (List Sample)
  deriving DecidableEq, Repr

/-! ## Cartridge -/

/-- The controller families of R521 and R523. -/
inductive CartFamily where
  | romOnly | mbc1 | mbc2 | mbc3 | mbc4 | mbc5 | mbc6 | mbc7 | mmm01 | special
  deriving DecidableEq, Repr

/-- The capability, derived once from the header and immutable (R521). -/
structure Capability where
  family       : CartFamily
  hasRam       : Bool
  hasBattery   : Bool
  hasTimer     : Bool
  hasRumble    : Bool
  ramSize      : Nat
  romBankCount : Nat
  deriving DecidableEq, Repr

/-- MBC1 registers (R530). -/
structure Mbc1 where
  ramEnable : Bool
  bankLo    : BitVec 5
  bankHi    : BitVec 2
  /-- 1: RAM banking -/
  mode      : Bool
  deriving DecidableEq, Repr

/-- The five bytes of an RTC snapshot, registers 0x08 to 0x0C (R545). -/
structure RtcRegs where
  seconds : Byte
  minutes : Byte
  hours   : Byte
  dayLow  : Byte
  dayHigh : Byte
  deriving DecidableEq, Repr

/-- MBC3 registers and its real-time clock (R540). -/
structure Mbc3 where
  ramEnable    : Bool
  romBank      : BitVec 7
  ramRtcSelect : BitVec 4
  latchLast    : Option Byte
  rtcLatched   : RtcRegs
  rtcStartTime : Int
  rtcStopped   : Bool
  rtcStopTime  : Int
  rtcCarry     : Bool
  deriving DecidableEq, Repr

/-- The selected controller's mutable state. -/
inductive Controller where
  | romOnly
  | mbc1 (m : Mbc1)
  | mbc3 (m : Mbc3)
  deriving DecidableEq, Repr

/-- The cartridge: image, external RAM, capability, controller (R520, R521). -/
structure Cart where
  cap  : Capability
  rom  : Memory
  ram  : Memory
  ctrl : Controller
  deriving DecidableEq, Repr

/-! ## The model's own state -/

/-- The host's wall clock: the last value of `RTC_NOW` in seconds, and how many samples have been taken (log 10). -/
structure HostClock where
  now     : Nat
  samples : Nat
  deriving DecidableEq, Repr

/-! ## The machine -/

/-- The state of the machine. -/
structure State where
  regs        : Regs
  /-- `IME` (R27) -/
  ime         : Bool
  /-- `ime_pending` (R28) -/
  imePending  : Bool
  /-- `cpu_state` (R29) -/
  cpuState    : CpuState
  /-- `halt_bug` (R30) -/
  haltBug     : Bool
  /-- `IE` (R31) -/
  ie          : Byte
  /-- `IF` (R32) -/
  iflag       : BitVec 5
  /-- `DMA` (R33) -/
  dma         : Byte
  /-- `dma_pending` (R33) -/
  dmaPending  : Bool
  /-- `boot_enabled` (R34) -/
  bootEnabled : Bool
  /-- `cpu_clock` (R35) -/
  cpuClock    : Nat
  timer       : Timer
  /-- `joyp_select` (R42) -/
  joypSelect  : BitVec 2
  /-- `JOYPAD` (R42, R102) -/
  buttons     : Buttons
  /-- `SB` (R43) -/
  sb          : Byte
  /-- `SC` (R43) -/
  sc          : Byte
  ppu         : Ppu
  apu         : Apu
  bootRom     : Memory
  vram        : Memory
  wram0       : Memory
  wram1       : Memory
  oam         : Memory
  hram        : Memory
  waveRam     : Memory
  cart        : Cart
  /-- the parameters of R7: no step changes them (log 5) -/
  params      : Params
  hostClock   : HostClock
  /-- the host's changes of `JOYPAD`, one list per step boundary, the next boundary first (R380, log 12) -/
  hostInputs  : List (List Buttons)
  deriving DecidableEq, Repr

/-- `STOP_WAKE` where it is neither of the predicates that the spec names (R7, log 6): free, so any predicate over the
state. -/
opaque Config.stopWake : State → Bool

/-! ## How a step stops -/

/-- Why the machine stops. -/
inductive Fault where
  /-- Answered by `step` when the machine is in `Faulted` (R29, R370: "from then on `Step()` is undefined"): the fatal
  fault that an earlier step recorded, an illegal opcode or an OAM DMA from page 0xFE. Safe: the machine has no
  further behaviour (log 8). -/
  | fatal (reason : FatalReason)
  deriving DecidableEq, Repr

/-- Why an instruction has no meaning. -/
inductive Refusal where
  /-- Answered by the arms of `exec` whose instruction has no meaning yet; no arm is left. Safe. -/
  | notModelled (mnemonic : String)
  deriving DecidableEq, Repr

/-! ## Reset -/

/-- The PPU of a `power_on` launch: every register 0, the display off, the gates open (R431, R433; log 4). -/
def Ppu.reset : Ppu :=
  { lcdc := 0, statEnables := 0, scy := 0, scx := 0, lyc := 0, bgp := 0, obp0 := 0, obp1 := 0, wy := 0, wx := 0
    displayEnableTime := 0, line := 0, mode := .hblank, vramAccess := true, oamAccess := true, statLine := false
    swallowFrame := false, frame := [], published := none, framesPublished := 0 }

/-- Every APU register byte 0 (R486). -/
def ApuRegs.off : ApuRegs :=
  { nr10 := 0, nr11 := 0, nr12 := 0, nr13 := 0, nr14 := 0, nr21 := 0, nr22 := 0, nr23 := 0, nr24 := 0, nr30 := 0
    nr31 := 0, nr32 := 0, nr33 := 0, nr34 := 0, nr41 := 0, nr42 := 0, nr43 := 0, nr44 := 0, nr50 := 0, nr51 := 0 }

/-- A pulse channel that is off (R486). The duty in use is 0, as `NRn1` is (DESIGN CHOICE, log 22). -/
def Pulse.off : Pulse := { on := false, len := 0, timer := 0, vol := 0, envTimer := 0, dutyPos := 0, duty := 0 }

/-- The APU switched off (R486). DESIGN CHOICE (log 14) for what R486 does not name: `sweep.on` and `ch3.sample` are 0,
the audio frame being filled and the queue of published audio frames are empty. -/
def Apu.reset : Apu :=
  { power := false, regs := .off, ch1 := .off, sweep := { timer := 0, on := false, shadow := 0 }, ch2 := .off
    ch3 := { on := false, len := 0, timer := 0, pos := 0, sample := 0 }
    ch4 := { on := false, len := 0, timer := 0, vol := 0, envTimer := 0, lfsr := 0x7FFF }
    seqDiv := 0, seqPos := 0, sampleAcc := 0, capLeft := 0, capRight := 0, frame := [], published := [] }

/-- The cartridge of the reset state: the ROM-only cartridge that an image of 32 KiB of unlisted bytes loads as
(R527; DESIGN CHOICE, log 3). -/
def Cart.blank : Cart :=
  { cap := { family := .romOnly, hasRam := false, hasBattery := false, hasTimer := false, hasRumble := false
             ramSize := 0, romBankCount := 2 }
    rom := [], ram := [], ctrl := .romOnly }

/-- The machine right after a `power_on` reset: the column `power_on` of R49 (R560), with the default parameters, the
registers it leaves unspecified at zero (log 1), and no byte of any memory written (log 2, log 3). -/
def State.reset : State :=
  { regs := { a := 0, f := { z := false, n := false, h := false, c := false }, b := 0, c := 0, d := 0, e := 0, h := 0
              l := 0, sp := 0, pc := 0x0000 }
    ime := false, imePending := false, cpuState := .running, haltBug := false
    ie := 0x00, iflag := 0, dma := 0xFF, dmaPending := false, bootEnabled := true
    cpuClock := 0
    timer := { div := 0, divLast := 0, tima := 0x00, tma := 0x00, tac := 0, overflow := false }
    joypSelect := 0b11, buttons := { direction := 0, action := 0 }, sb := 0x00, sc := 0x00
    ppu := .reset, apu := .reset
    bootRom := [], vram := [], wram0 := [], wram1 := [], oam := [], hram := [], waveRam := []
    cart := .blank, params := defaultParams, hostClock := { now := 0, samples := 0 }, hostInputs := [] }

end Sys2Proof.Machine
end

