-- ==== Sys2Proof/Machine/Apu.lean ====
section
/-! DEFINITION. The APU (63_apu.md): register stores and loads, triggers, the frame sequencer, the four channels, the
sample clock. -/

namespace Sys2Proof.Machine

/-! ## The register file (R481) -/

/-- The names of the twenty stored registers. -/
inductive ApuReg where
  | nr10 | nr11 | nr12 | nr13 | nr14
  | nr21 | nr22 | nr23 | nr24
  | nr30 | nr31 | nr32 | nr33 | nr34
  | nr41 | nr42 | nr43 | nr44
  | nr50 | nr51
  deriving DecidableEq, Repr

/-- The stored byte of a register. -/
def ApuRegs.get (g : ApuRegs) : ApuReg → Byte
  | .nr10 => g.nr10 | .nr11 => g.nr11 | .nr12 => g.nr12 | .nr13 => g.nr13 | .nr14 => g.nr14
  | .nr21 => g.nr21 | .nr22 => g.nr22 | .nr23 => g.nr23 | .nr24 => g.nr24
  | .nr30 => g.nr30 | .nr31 => g.nr31 | .nr32 => g.nr32 | .nr33 => g.nr33 | .nr34 => g.nr34
  | .nr41 => g.nr41 | .nr42 => g.nr42 | .nr43 => g.nr43 | .nr44 => g.nr44
  | .nr50 => g.nr50 | .nr51 => g.nr51

/-- The register file with one byte replaced. -/
def ApuRegs.put (g : ApuRegs) (r : ApuReg) (v : Byte) : ApuRegs :=
  match r with
  | .nr10 => { g with nr10 := v } | .nr11 => { g with nr11 := v } | .nr12 => { g with nr12 := v }
  | .nr13 => { g with nr13 := v } | .nr14 => { g with nr14 := v }
  | .nr21 => { g with nr21 := v } | .nr22 => { g with nr22 := v } | .nr23 => { g with nr23 := v }
  | .nr24 => { g with nr24 := v }
  | .nr30 => { g with nr30 := v } | .nr31 => { g with nr31 := v } | .nr32 => { g with nr32 := v }
  | .nr33 => { g with nr33 := v } | .nr34 => { g with nr34 := v }
  | .nr41 => { g with nr41 := v } | .nr42 => { g with nr42 := v } | .nr43 => { g with nr43 := v }
  | .nr44 => { g with nr44 := v }
  | .nr50 => { g with nr50 := v } | .nr51 => { g with nr51 := v }

/-- The read mask of R481. -/
def ApuReg.readMask : ApuReg → Byte
  | .nr10 => 0x80 | .nr11 => 0x3F | .nr12 => 0x00 | .nr13 => 0xFF | .nr14 => 0xBF
  | .nr21 => 0x3F | .nr22 => 0x00 | .nr23 => 0xFF | .nr24 => 0xBF
  | .nr30 => 0x7F | .nr31 => 0xFF | .nr32 => 0x9F | .nr33 => 0xFF | .nr34 => 0xBF
  | .nr41 => 0xFF | .nr42 => 0x00 | .nr43 => 0x00 | .nr44 => 0xBF
  | .nr50 => 0x00 | .nr51 => 0x00

/-- A load from `NR10` to `NR51` (R482). -/
def readApuReg (a : Apu) (r : ApuReg) : Byte := a.regs.get r ||| r.readMask

/-! ## Channel parameters (R484, R489, R496) -/

/-- `freq_n = (NRn4[2:0] << 8) | NRn3` (R484). -/
def freqOf (nrx3 nrx4 : Byte) : Nat := nrx4.toNat % 8 * 256 + nrx3.toNat

/-- `dac_n` of channels 1, 2 and 4: `NRn2[7:3] != 0` (R489). -/
def dacOn (nrx2 : Byte) : Bool := decide (8 ≤ nrx2.toNat)

/-- `enabled_1` (R489). -/
def enabled1 (a : Apu) : Bool := a.ch1.on && dacOn a.regs.nr12
/-- `enabled_2` (R489). -/
def enabled2 (a : Apu) : Bool := a.ch2.on && dacOn a.regs.nr22
/-- `enabled_3`: the DAC power is `NR30[7]` (R489). -/
def enabled3 (a : Apu) : Bool := a.ch3.on && a.regs.nr30.getLsbD 7
/-- `enabled_4` (R489). -/
def enabled4 (a : Apu) : Bool := a.ch4.on && dacOn a.regs.nr42

/-- The period of a pulse channel, in cycles (R496). -/
def pulsePeriod (nrx3 nrx4 : Byte) : Nat := (2048 - freqOf nrx3 nrx4) * 4
/-- The period of channel 3 (R496). -/
def wavePeriod (g : ApuRegs) : Nat := (2048 - freqOf g.nr33 g.nr34) * 2
/-- The divisor table of R496: `[8, 16, 32, 48, 64, 80, 96, 112]`. -/
def noiseDivisor (code : Nat) : Nat := if code = 0 then 8 else 16 * code
/-- The period of channel 4 (R496). -/
def noisePeriod (g : ApuRegs) : Nat := noiseDivisor (g.nr43.toNat % 8) * 2 ^ (g.nr43.toNat / 16)

/-- `NRn1[7:6]`: the duty that the next reload of a pulse channel's timer takes into use (R481, R482). -/
def storedDuty (nrx1 : Byte) : BitVec 2 := nrx1.extractLsb' 6 2

/-- A counter value of 0 is taken as 8: the periods of the envelope and the sweep (R490, R493). -/
def orEight (n : Nat) : Nat := if n = 0 then 8 else n

/-- `NRn2[2:0]`. -/
def envPeriod (nrx2 : Byte) : Nat := nrx2.toNat % 8
/-- `NR10[6:4]`. -/
def sweepPeriod (g : ApuRegs) : Nat := g.nr10.toNat / 16 % 8
/-- `NR10[2:0]`. -/
def sweepShift (g : ApuRegs) : Nat := g.nr10.toNat % 8

/-! ## The sweep calculation (R493) -/

/-- The frequency `SweepCalc()` returns. A subtraction cannot pass below 0, since `d` is at most `shadow`. -/
def sweepCalc (a : Apu) : Nat :=
  let shadow := a.sweep.shadow.toNat
  let d := shadow / 2 ^ sweepShift a.regs
  if a.regs.nr10.getLsbD 3 then shadow - d else shadow + d

/-- The overflow check of `SweepCalc()`: a frequency above 2047 switches channel 1 off. -/
def sweepCheck (a : Apu) : Apu :=
  if 2047 < sweepCalc a then { a with ch1 := { a.ch1 with on := false } } else a

/-! ## Triggers (R490) -/

/-- What a trigger does to a pulse channel. It loads the timer, so it takes the stored duty into use, as a reload does
(R482; DESIGN CHOICE, log 22). -/
def triggerPulse (nrx1 nrx2 nrx3 nrx4 : Byte) (p : Pulse) : Pulse :=
  { p with
    on := true
    len := if p.len = 0 then 64 else p.len
    timer := pulsePeriod nrx3 nrx4
    vol := nrx2.extractLsb' 4 4
    envTimer := orEight (envPeriod nrx2)
    duty := storedDuty nrx1 }

/-- `Trigger(1)`: also loads the sweep unit, and runs the overflow check when the shift is not 0. -/
def trigger1 (a : Apu) : Apu :=
  let g := a.regs
  let b :=
    { a with
      ch1 := triggerPulse g.nr11 g.nr12 g.nr13 g.nr14 a.ch1
      sweep :=
        { timer := orEight (sweepPeriod g)
          on := decide (sweepPeriod g ≠ 0) || decide (sweepShift g ≠ 0)
          shadow := BitVec.ofNat 11 (freqOf g.nr13 g.nr14) } }
  if sweepShift g ≠ 0 then sweepCheck b else b

/-- `Trigger(2)`. -/
def trigger2 (a : Apu) : Apu :=
  { a with ch2 := triggerPulse a.regs.nr21 a.regs.nr22 a.regs.nr23 a.regs.nr24 a.ch2 }

/-- `Trigger(3)`. -/
def trigger3 (a : Apu) : Apu :=
  { a with
    ch3 := { a.ch3 with
      on := true, len := if a.ch3.len = 0 then 256 else a.ch3.len, timer := wavePeriod a.regs, pos := 0 } }

/-- `Trigger(4)`. -/
def trigger4 (a : Apu) : Apu :=
  { a with
    ch4 :=
      { on := true
        len := if a.ch4.len = 0 then 64 else a.ch4.len
        timer := noisePeriod a.regs
        vol := a.regs.nr42.extractLsb' 4 4
        envTimer := orEight (envPeriod a.regs.nr42)
        lfsr := 0x7FFF } }

/-! ## Register stores (R482, R483) -/

/-- The length that a store of `v` to `NR11`, `NR21` or `NR41` loads. -/
def lengthLoad (v : Byte) : Nat := 64 - v.toNat % 64

/-- The action of a store, once the byte is stored (R482). -/
def apuAction (r : ApuReg) (v : Byte) (a : Apu) : Apu :=
  match r with
  | .nr11 => { a with ch1 := { a.ch1 with len := lengthLoad v } }
  | .nr21 => { a with ch2 := { a.ch2 with len := lengthLoad v } }
  | .nr41 => { a with ch4 := { a.ch4 with len := lengthLoad v } }
  | .nr31 => { a with ch3 := { a.ch3 with len := 256 - v.toNat } }
  | .nr12 => { a with ch1 := { a.ch1 with on := a.ch1.on && dacOn v } }
  | .nr22 => { a with ch2 := { a.ch2 with on := a.ch2.on && dacOn v } }
  | .nr42 => { a with ch4 := { a.ch4 with on := a.ch4.on && dacOn v } }
  | .nr30 => { a with ch3 := { a.ch3 with on := a.ch3.on && v.getLsbD 7 } }
  | .nr14 => if v.getLsbD 7 then trigger1 a else a
  | .nr24 => if v.getLsbD 7 then trigger2 a else a
  | .nr34 => if v.getLsbD 7 then trigger3 a else a
  | .nr44 => if v.getLsbD 7 then trigger4 a else a
  | _ => a

/-- The byte a store of `v` leaves in a register: the trigger bit of `NRn4` is not stored (R482). -/
def storedByte (r : ApuReg) (v : Byte) : Byte :=
  match r with
  | .nr14 => v &&& 0x7F
  | .nr24 => v &&& 0x7F
  | .nr34 => v &&& 0x7F
  | .nr44 => v &&& 0x7F
  | _ => v

/-- A store to `NR10` to `NR51`: ignored while the APU is off (R482). -/
def writeApuReg (r : ApuReg) (v : Byte) (a : Apu) : Apu :=
  if a.power then apuAction r v { a with regs := a.regs.put r (storedByte r v) } else a

/-- A load from `NR52` (R483). -/
def readNr52 (a : Apu) : Byte :=
  bitAt 7 a.power ||| 0x70 ||| bitAt 3 (enabled4 a) ||| bitAt 2 (enabled3 a) ||| bitAt 1 (enabled2 a) |||
    bitAt 0 (enabled1 a)

/-- Switching the APU off puts the values of R486 in place; what R486 does not name stays: `sweep_on`, `wave_sample` and
the audio frames (log 14). -/
def apuSwitchedOff (a : Apu) : Apu :=
  { Apu.reset with
    sweep := { timer := 0, on := a.sweep.on, shadow := 0 }
    ch3 := { on := false, len := 0, timer := 0, pos := 0, sample := a.ch3.sample }
    frame := a.frame, published := a.published }

/-- A store to `NR52`: only bit 7 counts (R483). -/
def writeNr52 (v : Byte) (a : Apu) : Apu :=
  match a.power, v.getLsbD 7 with
  | true, false => apuSwitchedOff a
  | false, true => { a with power := true, seqPos := 0, seqDiv := 0 }
  | _, _ => a

/-! ## The frame sequencer (R487, R491, R492, R493) -/

/-- Length event of one channel: the new counter, and whether the channel stays on (R491). -/
def lengthStep (nrx4 : Byte) (on : Bool) (len : Nat) : Nat × Bool :=
  if nrx4.getLsbD 6 && decide (0 < len) then (len - 1, on && decide (len ≠ 1)) else (len, on)

/-- The length event (R491). -/
def lengthEvent (a : Apu) : Apu :=
  let (l1, o1) := lengthStep a.regs.nr14 a.ch1.on a.ch1.len
  let (l2, o2) := lengthStep a.regs.nr24 a.ch2.on a.ch2.len
  let (l3, o3) := lengthStep a.regs.nr34 a.ch3.on a.ch3.len
  let (l4, o4) := lengthStep a.regs.nr44 a.ch4.on a.ch4.len
  { a with
    ch1 := { a.ch1 with len := l1, on := o1 }
    ch2 := { a.ch2 with len := l2, on := o2 }
    ch3 := { a.ch3 with len := l3, on := o3 }
    ch4 := { a.ch4 with len := l4, on := o4 } }

/-- Envelope event of one channel: the new timer and volume (R492). A timer that is already 0 does not count. -/
def envelopeStep (nrx2 : Byte) (timer : Nat) (vol : BitVec 4) : Nat × BitVec 4 :=
  if envPeriod nrx2 = 0 then (timer, vol)
  else if timer = 1 then
    (envPeriod nrx2,
      if nrx2.getLsbD 3 then (if vol.toNat < 15 then vol + 1 else vol)
      else (if 0 < vol.toNat then vol - 1 else vol))
  else (timer - 1, vol)

/-- The envelope event (R492). -/
def envelopeEvent (a : Apu) : Apu :=
  let (t1, v1) := envelopeStep a.regs.nr12 a.ch1.envTimer a.ch1.vol
  let (t2, v2) := envelopeStep a.regs.nr22 a.ch2.envTimer a.ch2.vol
  let (t4, v4) := envelopeStep a.regs.nr42 a.ch4.envTimer a.ch4.vol
  { a with
    ch1 := { a.ch1 with envTimer := t1, vol := v1 }
    ch2 := { a.ch2 with envTimer := t2, vol := v2 }
    ch4 := { a.ch4 with envTimer := t4, vol := v4 } }

/-- `NR14` with its bits 2:0 replaced by `f[10:8]` (R493). -/
def setFreqHigh (nr14 : Byte) (f : BitVec 11) : Byte := (nr14 &&& 0xF8) ||| (f.extractLsb' 8 3).setWidth 8

/-- The new frequency goes to `shadow`, `NR13` and `NR14` (R493). -/
def setSweepFreq (f : BitVec 11) (a : Apu) : Apu :=
  { a with
    sweep := { a.sweep with shadow := f }
    regs := { a.regs with nr13 := f.extractLsb' 0 8, nr14 := setFreqHigh a.regs.nr14 f } }

/-- What the sweep does when its timer has run out and it is active (R493). -/
def sweepUpdate (a : Apu) : Apu :=
  let f := sweepCalc a
  let b := sweepCheck a
  if f ≤ 2047 ∧ sweepShift a.regs ≠ 0 then sweepCheck (setSweepFreq (BitVec.ofNat 11 f) b) else b

/-- The sweep event (R493). A timer that is already 0 does not count. -/
def sweepEvent (a : Apu) : Apu :=
  if a.sweep.timer = 1 then
    let b := { a with sweep := { a.sweep with timer := orEight (sweepPeriod a.regs) } }
    if b.sweep.on ∧ sweepPeriod b.regs ≠ 0 then sweepUpdate b else b
  else { a with sweep := { a.sweep with timer := a.sweep.timer - 1 } }

/-- The events of one frame-sequencer tick: length on even positions, sweep on 2 and 6, envelope on 7 (R487). -/
def sequencerEvents (pos : Nat) (a : Apu) : Apu :=
  match pos with
  | 0 => lengthEvent a
  | 2 => sweepEvent (lengthEvent a)
  | 4 => lengthEvent a
  | 6 => sweepEvent (lengthEvent a)
  | 7 => envelopeEvent a
  | _ => a

/-- `FrameSequencerTick()` (R487). -/
def sequencerTick (a : Apu) : Apu :=
  let b := sequencerEvents a.seqPos.toNat a
  { b with seqPos := b.seqPos + 1 }

/-- The frame-sequencer divider: a tick every 8192 cycles (R488). -/
def sequencerStep (a : Apu) : Apu :=
  if a.seqDiv + 4 = 8192 then sequencerTick { a with seqDiv := 0 } else { a with seqDiv := a.seqDiv + 4 }

/-! ## The channel timers (R496) -/

/-- A down-counter after `c` cycles: its new value, and how many times it was reloaded by adding `period`. -/
def countDown (c period timer : Nat) : Nat × Nat :=
  if c < timer then (timer - c, 0)
  else
    let k := (c - timer) / period + 1
    (k * period - (c - timer), k)

/-- A pulse channel's timer. A reload takes the stored duty into use (R482). -/
def pulseTimer (c period : Nat) (nrx1 : Byte) (p : Pulse) : Pulse :=
  let (t, k) := countDown c period p.timer
  { p with
    timer := t, dutyPos := p.dutyPos + BitVec.ofNat 3 k, duty := if k = 0 then p.duty else storedDuty nrx1 }

/-- Sample `k` of wave RAM: the high nibble first (R485). -/
def waveSample (wave : Memory) (k : BitVec 5) : BitVec 4 :=
  let v := wave.read (k.toNat / 2)
  if k.getLsbD 0 then v.extractLsb' 0 4 else v.extractLsb' 4 4

/-- Channel 3's timer. -/
def waveTimer (c period : Nat) (wave : Memory) (w : Wave) : Wave :=
  let (t, k) := countDown c period w.timer
  let pos := w.pos + BitVec.ofNat 5 k
  { w with timer := t, pos := pos, sample := if k = 0 then w.sample else waveSample wave pos }

/-- One step of the LFSR; `narrow` is `NR43[3]` (R496). -/
def lfsrStep (narrow : Bool) (l : BitVec 15) : BitVec 15 :=
  let b := l.getLsbD 0 ^^ l.getLsbD 1
  let shifted := (l >>> 1) ||| (if b then 0x4000 else 0)
  if narrow then (shifted &&& ~~~0x40) ||| (if b then 0x40 else 0) else shifted

/-- Channel 4's timer. -/
def noiseTimer (c period : Nat) (narrow : Bool) (n : Noise) : Noise :=
  let (t, k) := countDown c period n.timer
  { n with timer := t, lfsr := iterate (lfsrStep narrow) k n.lfsr }

/-- `ChannelTimers(c)`: the timers of the enabled channels (R496). -/
def channelTimers (c : Nat) (wave : Memory) (a : Apu) : Apu :=
  let g := a.regs
  { a with
    ch1 := if enabled1 a then pulseTimer c (pulsePeriod g.nr13 g.nr14) g.nr11 a.ch1 else a.ch1
    ch2 := if enabled2 a then pulseTimer c (pulsePeriod g.nr23 g.nr24) g.nr21 a.ch2 else a.ch2
    ch3 := if enabled3 a then waveTimer c (wavePeriod g) wave a.ch3 else a.ch3
    ch4 := if enabled4 a then noiseTimer c (noisePeriod g) (g.nr43.getLsbD 3) a.ch4 else a.ch4 }

/-! ## Output (R494 to R497) -/

/-- `DUTY`, position 0 leftmost (R496). -/
def dutyWave (duty : BitVec 2) : Byte :=
  match duty.toNat with
  | 0 => 0b00000001
  | 1 => 0b10000001
  | 2 => 0b10000111
  | _ => 0b01111110

/-- A pulse channel's output, 0 to 15 (R496). The `NRn1[7:6]` of the formula is the duty in use: a new one is used from
the next reload of the timer (R482; DESIGN CHOICE, log 22). -/
def pulseOutput (p : Pulse) : Nat :=
  if (dutyWave p.duty).getLsbD (7 - p.dutyPos.toNat) then p.vol.toNat else 0

/-- The output level shift of `NR32[6:5]`: `[4, 0, 1, 2]` (R496). -/
def waveShift (level : Nat) : Nat :=
  match level with
  | 0 => 4
  | 1 => 0
  | 2 => 1
  | _ => 2

/-- `out_1` to `out_4`: a channel that is not enabled outputs 0 (R496). -/
def channelOutputs (a : Apu) : Nat × Nat × Nat × Nat :=
  (if enabled1 a then pulseOutput a.ch1 else 0,
   if enabled2 a then pulseOutput a.ch2 else 0,
   if enabled3 a then a.ch3.sample.toNat / 2 ^ waveShift (a.regs.nr32.toNat / 32 % 4) else 0,
   if enabled4 a then (if a.ch4.lfsr.getLsbD 0 then 0 else a.ch4.vol.toNat) else 0)

/-- `mix_s`: the sum of the outputs that `NR51` routes to a side; `shift` is 4 for the left, 0 for the right. -/
def mixSide (nr51 : Byte) (shift : Nat) (out : Nat × Nat × Nat × Nat) : Nat :=
  (if nr51.getLsbD shift then out.1 else 0) + (if nr51.getLsbD (shift + 1) then out.2.1 else 0) +
    (if nr51.getLsbD (shift + 2) then out.2.2.1 else 0) + (if nr51.getLsbD (shift + 3) then out.2.2.2 else 0)

/-- The filter constant `k` of R497: any rational strictly between 0 and 1 (log 13). -/
def filterConstant : Rat := (Config.filterGain + 1) / (Config.filterGain + Config.filterLoss + 2)

/-- The filter's output for one side. -/
def filterOut (cap : Rat) (mix : Nat) : Rat := mix - cap

/-- The filter's new state for one side. -/
def filterCap (cap : Rat) (mix : Nat) : Rat := mix - filterOut cap mix * filterConstant

/-- A side's master volume, `vol_s + 1` (R497). -/
def masterVolume (v : Nat) : Rat := v + 1

/-- `AUDIO_FRAME_LEN` (R495). -/
def audioFrameLen : Nat := Config.audioFrameLenPred + 1

/-- Appends a sample to the frame being filled, and publishes the frame when it is full (R495). -/
def pushSample (x : Sample) (a : Apu) : Apu :=
  let frame := a.frame ++ [x]
  { a with
    frame := if audioFrameLen ≤ frame.length then [] else frame
    published := if audioFrameLen ≤ frame.length then a.published ++ [frame] else a.published }

/-- Emits one stereo sample (R497). -/
def emitSample (a : Apu) : Apu :=
  let out := channelOutputs a
  let left := mixSide a.regs.nr51 4 out
  let right := mixSide a.regs.nr51 0 out
  let volLeft := masterVolume (a.regs.nr50.toNat / 16 % 8)
  let volRight := masterVolume (a.regs.nr50.toNat % 8)
  pushSample
    (Config.sampleFormat (filterOut a.capLeft left * volLeft), Config.sampleFormat (filterOut a.capRight right * volRight))
    { a with capLeft := filterCap a.capLeft left, capRight := filterCap a.capRight right }

/-- The sample rate of R494. -/
def sampleRate : Nat := 44100

/-- Clock cycles per second (R6). -/
def clockRate : Nat := 4194304

/-- `SampleClock(c)` (R494): the accumulator passes `clockRate` as often as the quotient says. -/
def sampleClock (c : Nat) (a : Apu) : Apu :=
  let acc := a.sampleAcc + c * sampleRate
  iterate emitSample (acc / clockRate) { a with sampleAcc := acc % clockRate }

/-- `ApuStep()` (R488). -/
def apuTick (wave : Memory) (a : Apu) : Apu :=
  sampleClock 4 (if a.power then channelTimers 4 wave (sequencerStep a) else a)

/-- `ApuStep()` on the machine. -/
def apuStep (s : State) : State := { s with apu := apuTick s.waveRam s.apu }

end Sys2Proof.Machine
end

