-- ==== Sys2Proof/Machine/Cartridge.lean ====
section
/-! DEFINITION. The cartridge (64_cartridge_mbc.md): reads and stores of the ROM-only, MBC1 and MBC3 controllers, and
the real-time clock. Addresses are bus addresses, as numbers. -/

namespace Sys2Proof.Machine

/-! ## External RAM -/

/-- The RAM bank that the controller maps, if it maps and enables RAM: always bank 0 on a ROM-only cartridge (R527);
`bank_hi` in mode 1, else 0, on MBC1 (R536); the selector on MBC3 while it names a RAM bank (R547). -/
def mappedRamBank (c : Controller) : Option Nat :=
  match c with
  | .romOnly => some 0
  | .mbc1 m => if m.ramEnable then some (if m.mode then m.bankHi.toNat else 0) else none
  | .mbc3 m => if m.ramEnable && decide (m.ramRtcSelect.toNat < 4) then some m.ramRtcSelect.toNat else none

/-- The offset in external RAM that bus address `a` reaches, if it reaches RAM: reduced modulo `ram_size` (R528, R536);
none without RAM. -/
def ramWindow (c : Cart) (a : Nat) : Option Nat :=
  match mappedRamBank c.ctrl with
  | some bank => if c.cap.ramSize = 0 then none else some ((bank * 0x2000 + (a - 0xA000)) % c.cap.ramSize)
  | none => none

/-! ## ROM banks -/

/-- A bank number reduced modulo the bank count, and remapped to 1 if that gives 0 (R535, R546). -/
def effectiveBank (count raw : Nat) : Nat := if raw % count = 0 then 1 else raw % count

/-- MBC1's `EffBank()` (R535). -/
def mbc1Bank (count : Nat) (m : Mbc1) : Nat :=
  effectiveBank count (if m.mode then m.bankLo.toNat else m.bankHi.toNat * 32 + m.bankLo.toNat)

/-- The bank mapped at 0x4000 to 0x7FFF (R535, R546); a ROM-only cartridge has no banking and maps its second bank. -/
def mappedBank (c : Cart) : Nat :=
  match c.ctrl with
  | .romOnly => 1
  | .mbc1 m => mbc1Bank c.cap.romBankCount m
  | .mbc3 m => effectiveBank c.cap.romBankCount m.romBank.toNat

/-- `current_rom_bank()`, host-facing: -1 for ROM-only (R528). -/
def currentRomBank (c : Cart) : Int :=
  match c.ctrl with
  | .romOnly => -1
  | _ => (mappedBank c : Int)

/-- The offset in the image of ROM-area address `a`. -/
def romOffset (c : Cart) (a : Nat) : Nat := if a < 0x4000 then a else 0x4000 * mappedBank c + (a - 0x4000)

/-! ## The real-time clock (R545) -/

/-- `RTC_NOW()`: the wall clock moves on by a free number of seconds and is read (R545, log 10). -/
def sampleClockTime (h : HostClock) : HostClock :=
  { now := h.now + Config.freeSeconds h.samples, samples := h.samples + 1 }

/-- The reference of `Elapsed()`: the stop time, or now. -/
def rtcReference (now : Int) (m : Mbc3) : Int := if m.rtcStopped then m.rtcStopTime else now

/-- `Elapsed()`, in seconds, at least 0 (R545). -/
def rtcElapsed (now : Int) (m : Mbc3) : Nat := (rtcReference now m - m.rtcStartTime).toNat

/-- The carry that `RtcLive()` leaves: set once the day counter passes 511. -/
def rtcLiveCarry (e : Nat) (carry : Bool) : Bool := decide (511 < e / 86400) || carry

/-- The five registers of `RtcLive()` for an elapsed time. -/
def rtcRegsOf (e : Nat) (stopped carry : Bool) : RtcRegs :=
  { seconds := BitVec.ofNat 8 (e % 60)
    minutes := BitVec.ofNat 8 (e / 60 % 60)
    hours := BitVec.ofNat 8 (e / 3600 % 24)
    dayLow := BitVec.ofNat 8 (e / 86400)
    dayHigh := bitAt 0 ((e / 86400).testBit 8) ||| bitAt 6 stopped ||| bitAt 7 carry }

/-- The latch: the live registers are copied to the snapshot (R544). -/
def rtcLatch (now : Int) (m : Mbc3) : Mbc3 :=
  let e := rtcElapsed now m
  let carry := rtcLiveCarry e m.rtcCarry
  { m with rtcCarry := carry, rtcLatched := rtcRegsOf e m.rtcStopped carry }

/-- Register `8 + k` of a snapshot. -/
def RtcRegs.get (r : RtcRegs) (k : Nat) : Byte :=
  match k with
  | 0 => r.seconds
  | 1 => r.minutes
  | 2 => r.hours
  | 3 => r.dayLow
  | _ => r.dayHigh

/-- A snapshot with register `8 + k` replaced. -/
def RtcRegs.put (r : RtcRegs) (k : Nat) (v : Byte) : RtcRegs :=
  match k with
  | 0 => { r with seconds := v }
  | 1 => { r with minutes := v }
  | 2 => { r with hours := v }
  | 3 => { r with dayLow := v }
  | _ => { r with dayHigh := v }

/-- The elapsed time that five components stand for (R545). -/
def rtcSecondsOf (r : RtcRegs) : Nat :=
  r.seconds.toNat % 60 + r.minutes.toNat % 60 * 60 + r.hours.toNat % 24 * 3600 +
    (r.dayLow.toNat + r.dayHigh.toNat % 2 * 256) * 86400

/-- The stopped bit of a store to register 0x0C (R545). -/
def rtcSetStopped (now : Int) (stop : Bool) (m : Mbc3) : Mbc3 :=
  match m.rtcStopped, stop with
  | false, true => { m with rtcStopTime := now, rtcStopped := true }
  | true, false => { m with rtcStartTime := m.rtcStartTime + (now - m.rtcStopTime), rtcStopped := false }
  | _, _ => m

/-- A store of `v` to RTC register `8 + k` (R545, log 11). -/
def rtcWrite (now : Int) (k : Nat) (v : Byte) (m : Mbc3) : Mbc3 :=
  let e := rtcElapsed now m
  let carry := rtcLiveCarry e m.rtcCarry
  let e' := rtcSecondsOf ((rtcRegsOf e m.rtcStopped carry).put k v)
  let m' := { m with rtcStartTime := rtcReference now m - e', rtcCarry := carry }
  if k = 4 then rtcSetStopped now (v.getLsbD 6) { m' with rtcCarry := v.getLsbD 7 } else m'

/-! ## Loads (`CartRead`) -/

/-- The RTC register that MBC3 maps at 0xA000 to 0xBFFF, as an offset from register 0x08: while it is enabled, names an
RTC register, and has a timer (R547). -/
def rtcWindow (cap : Capability) (m : Mbc3) : Option Nat :=
  if m.ramEnable && decide (8 ≤ m.ramRtcSelect.toNat) && cap.hasTimer then some (m.ramRtcSelect.toNat - 8) else none

/-- A load from 0xA000 to 0xBFFF that reaches no RAM: the latched RTC register if one is mapped, else 0xFF. -/
def noRamRead (c : Cart) : Byte :=
  match c.ctrl with
  | .mbc3 m =>
    match rtcWindow c.cap m with
    | some k => m.rtcLatched.get k
    | none => 0xFF
  | _ => 0xFF

/-- A load from 0xA000 to 0xBFFF (R527, R536, R547). -/
def cartExternalRead (c : Cart) (a : Nat) : Byte :=
  match ramWindow c a with
  | some k => c.ram.read k
  | none => noRamRead c

/-- `CartRead(a)` (R527, R535, R536, R546, R547). -/
def cartRead (c : Cart) (a : Nat) : Byte := if a < 0x8000 then c.rom.read (romOffset c a) else cartExternalRead c a

/-! ## Stores (`CartWrite`) -/

/-- The low nibble that enables external RAM (R531, R541). -/
def isEnableByte (v : Byte) : Bool := decide (lowNibble v = 0x0A)

/-- A value stored to a bank register, with 0 coerced to 1 (R532, R542). -/
def nonZeroBank {w : Nat} (b : BitVec w) : BitVec w := if b = 0 then 1 else b

/-- MBC1 register stores, 0x0000 to 0x7FFF (R531 to R534). -/
def mbc1Write (a : Nat) (v : Byte) (m : Mbc1) : Mbc1 :=
  if a < 0x2000 then { m with ramEnable := isEnableByte v }
  else if a < 0x4000 then { m with bankLo := nonZeroBank (v.setWidth 5) }
  else if a < 0x6000 then { m with bankHi := v.setWidth 2 }
  else { m with mode := v.getLsbD 0 }

/-- The selector values of R543. -/
def isRamRtcSelector (v : Byte) : Bool := decide (v.toNat < 4) || (decide (8 ≤ v.toNat) && decide (v.toNat ≤ 12))

/-- A store to the latch range completes the 0, 1 sequence on a cartridge with a timer (R544). -/
def latchesRtc (c : Cart) (m : Mbc3) (v : Byte) : Bool :=
  c.cap.hasTimer && decide (m.latchLast = some 0x00) && decide (v = 0x01)

/-- MBC3 register stores below the latch range, 0x0000 to 0x5FFF (R541 to R543). -/
def mbc3Write (a : Nat) (v : Byte) (m : Mbc3) : Mbc3 :=
  if a < 0x2000 then { m with ramEnable := isEnableByte v || m.ramEnable }
  else if a < 0x4000 then { m with romBank := nonZeroBank (v.setWidth 7) }
  else if isRamRtcSelector v then { m with ramRtcSelect := v.setWidth 4 }
  else m

/-- A store to MBC3's 0x0000 to 0x7FFF, with the host clock a latch reads (R541 to R544). -/
def mbc3RegisterStore (c : Cart) (h : HostClock) (m : Mbc3) (a : Nat) (v : Byte) : Cart × HostClock :=
  if a < 0x6000 then ({ c with ctrl := .mbc3 (mbc3Write a v m) }, h)
  else if latchesRtc c m v then
    let h' := sampleClockTime h
    ({ c with ctrl := .mbc3 { rtcLatch h'.now m with latchLast := some v } }, h')
  else ({ c with ctrl := .mbc3 { m with latchLast := some v } }, h)

/-- A store to 0xA000 to 0xBFFF that reaches no RAM: an RTC store if an RTC register is mapped, else nothing (R547). -/
def noRamStore (c : Cart) (h : HostClock) (v : Byte) : Cart × HostClock :=
  match c.ctrl with
  | .mbc3 m =>
    match rtcWindow c.cap m with
    | some k =>
      let h' := sampleClockTime h
      ({ c with ctrl := .mbc3 (rtcWrite h'.now k v m) }, h')
    | none => (c, h)
  | _ => (c, h)

/-- A store to 0xA000 to 0xBFFF (R527, R536, R547). -/
def cartExternalStore (c : Cart) (h : HostClock) (a : Nat) (v : Byte) : Cart × HostClock :=
  match ramWindow c a with
  | some k => ({ c with ram := c.ram.write k v }, h)
  | none => noRamStore c h v

/-- A store to 0x0000 to 0x7FFF: the controller's registers; nothing on a ROM-only cartridge (R527, R531 to R534, R541
to R544). -/
def cartRegisterStore (c : Cart) (h : HostClock) (a : Nat) (v : Byte) : Cart × HostClock :=
  match c.ctrl with
  | .romOnly => (c, h)
  | .mbc1 m => ({ c with ctrl := .mbc1 (mbc1Write a v m) }, h)
  | .mbc3 m => mbc3RegisterStore c h m a v

/-- `CartWrite(a, v)` (R76). -/
def cartWrite (c : Cart) (h : HostClock) (a : Nat) (v : Byte) : Cart × HostClock :=
  if a < 0x8000 then cartRegisterStore c h a v else cartExternalStore c h a v

end Sys2Proof.Machine
end

