-- ==== Sys2Proof/Machine/Timer.lean ====
section
/-! DEFINITION. The timer block (61_timer.md), and the interrupt request of a device (R32, R353). -/

namespace Sys2Proof.Machine

/-- A device's request of interrupt source `n`: `IF[n] <- 1` when `raised` (R353). -/
def requestInterrupt (n : Nat) (raised : Bool) (iflag : BitVec 5) : BitVec 5 :=
  if raised then iflag ||| BitVec.ofNat 5 (2 ^ n) else iflag

/-- The tap bit of `DIV` that `TAC.sel` selects: bit 9, 3, 5 or 7 (R39). -/
def tapBit (tac : BitVec 3) : Nat :=
  match tac.toNat % 4 with
  | 0 => 9
  | 1 => 3
  | 2 => 5
  | _ => 7

/-- `TAC.en` (R39). -/
def timerEnabled (tac : BitVec 3) : Bool := tac.getLsbD 2

/-- A falling edge of the tap bit, from `div_last` to `DIV`, while the timer is enabled (R403). -/
def timerEdge (t : Timer) : Bool :=
  timerEnabled t.tac && t.divLast.getLsbD (tapBit t.tac) && !t.div.getLsbD (tapBit t.tac)

/-- `Evaluate()` (R403): an edge increments `TIMA`, or overflows it and defers the reload (R405). -/
def timerEvaluate (t : Timer) : Timer :=
  { t with
    tima := if timerEdge t then t.tima + 1 else t.tima
    overflow := (timerEdge t && decide (t.tima = 0xFF)) || t.overflow
    divLast := t.div }

/-- The deferred reload of `TIMA` from `TMA` (R406). -/
def timerReload (t : Timer) : Timer :=
  { t with tima := if t.overflow then t.tma else t.tima, overflow := false }

/-- `TimerStep()` on the timer block (R402). -/
def timerTick (t : Timer) : Timer :=
  let r := timerReload t
  timerEvaluate { r with div := r.div + 4 }

/-- `TimerStep()`: a deferred reload also requests interrupt 2 (R402, R406). -/
def timerStep (s : State) : State :=
  { s with timer := timerTick s.timer, iflag := requestInterrupt 2 s.timer.overflow s.iflag }

/-- A store to `DIV`, whatever the value: reset, and the edge evaluated at once (R404). -/
def writeDiv (t : Timer) : Timer := timerEvaluate { t with div := 0 }

/-- A store to `TIMA` (R410). -/
def writeTima (cancels : Bool) (t : Timer) (v : Byte) : Timer :=
  { t with tima := v, overflow := t.overflow && !cancels }

/-- A store to `TAC` (R412). -/
def writeTac (t : Timer) (v : Byte) : Timer := { t with tac := v.setWidth 3 }

end Sys2Proof.Machine
end

