-- ==== Sys2Proof/Machine/Joypad.lean ====
section
/-! DEFINITION. The joypad register (R102). -/

namespace Sys2Proof.Machine

/-- `JoypLines()`: 1 = not pressed (R102). A 0 in `joyp_select` selects: bit 0 the directions, bit 1 the actions. -/
def joypLines (select : BitVec 2) (b : Buttons) : BitVec 4 :=
  (if select.getLsbD 0 then 0xF else ~~~b.direction) &&& (if select.getLsbD 1 then 0xF else ~~~b.action)

/-- A load from `JOYP` (R102). -/
def readJoyp (s : State) : Byte :=
  0xC0 ||| (s.joypSelect.setWidth 8 <<< 4) ||| (joypLines s.joypSelect s.buttons).setWidth 8

/-- A line goes from 1 to 0 (R102). -/
def lineFalls (old new : BitVec 4) : Bool := decide (old &&& ~~~new ≠ 0)

/-- The selection and the buttons replaced, with the interrupt request that a falling line makes (R102). -/
def setJoypad (select : BitVec 2) (b : Buttons) (s : State) : State :=
  { s with
    joypSelect := select
    buttons := b
    iflag := requestInterrupt 4 (lineFalls (joypLines s.joypSelect s.buttons) (joypLines select b)) s.iflag }

/-- A store to `JOYP`: bits 5:4 (R102). -/
def writeJoyp (v : Byte) (s : State) : State := setJoypad (v.extractLsb' 4 2) s.buttons s

/-- The host changes the button lines (R102, R380). -/
def hostPress (s : State) (b : Buttons) : State := setJoypad s.joypSelect b s

end Sys2Proof.Machine
end

