-- ==== Sys2Proof/Machine/Ppu.lean ====
section
/-! DEFINITION. The PPU (62_ppu.md): the scanline schedule, the access gates, the two interrupt sources, the register
stores, publishing and the rendering of a line. -/

namespace Sys2Proof.Machine

/-! ## Registers -/

/-- `LCDC[7]`, display enable. -/
def displayOn (p : Ppu) : Bool := p.lcdc.getLsbD 7

/-- The mode number of R436. -/
def PpuMode.number : PpuMode → Nat
  | .hblank => 0 | .vblank => 1 | .oamScan => 2 | .transfer => 3

/-- `coincidence` (R432). -/
def coincidence (p : Ppu) : Bool := displayOn p && decide (p.line = p.lyc.toNat)

/-- A load from `STAT` (R432). -/
def readStat (p : Ppu) : Byte :=
  0x80 ||| (p.statEnables.setWidth 8 <<< 3) ||| bitAt 2 (coincidence p) ||| BitVec.ofNat 8 p.mode.number

/-- A load from `LY` (R435). -/
def readLy (p : Ppu) : Byte := BitVec.ofNat 8 p.line

/-! ## The lcd-stat interrupt (R441) -/

/-- The OR of the enabled lcd-stat conditions. `statEnables` bit `i` is `STAT` bit `3 + i`. -/
def statCondition (p : Ppu) : Bool :=
  (p.statEnables.getLsbD 0 && decide (p.mode = .hblank)) ||
  (p.statEnables.getLsbD 1 && decide (p.mode = .vblank)) ||
  (p.statEnables.getLsbD 2 && decide (p.mode = .oamScan)) ||
  (p.statEnables.getLsbD 3 && decide (p.line = p.lyc.toNat))

/-- The new `stat_line` of `StatUpdate()`. -/
def newStatLine (p : Ppu) : Bool := displayOn p && statCondition p

/-- `StatUpdate()`: the request is made on a rising edge of the line (R441). -/
def statUpdate (s : State) : State :=
  { s with
    ppu := { s.ppu with statLine := newStatLine s.ppu }
    iflag := requestInterrupt 1 (!s.ppu.statLine && newStatLine s.ppu) s.iflag }

/-- A store to `STAT`: bits 6:3, then `StatUpdate()` (R432). -/
def writeStat (v : Byte) (s : State) : State :=
  statUpdate { s with ppu := { s.ppu with statEnables := v.extractLsb' 3 4 } }

/-- A store to `LYC` (R431). -/
def writeLyc (v : Byte) (s : State) : State := statUpdate { s with ppu := { s.ppu with lyc := v } }

/-! ## Display enable (R434, R439) -/

/-- The start-up delay, in clock cycles. -/
def startupDelay : Nat := 244

/-- Switching the display off: line and mode 0, gates open, pending state cleared. -/
def displaySwitchedOff (p : Ppu) : Ppu :=
  { p with line := 0, mode := .hblank, vramAccess := true, oamAccess := true, statLine := false, swallowFrame := false }

/-- Switching the display on at clock `clock`: the schedule starts after the delay, and the first frame is withheld. -/
def displaySwitchedOn (clock : Nat) (p : Ppu) : Ppu :=
  { p with displayEnableTime := clock + startupDelay, swallowFrame := true, line := 0, mode := .hblank }

/-- A store to `LCDC` (R434). -/
def writeLcdc (clock : Nat) (v : Byte) (p : Ppu) : Ppu :=
  let q := { p with lcdc := v }
  match displayOn p, v.getLsbD 7 with
  | true, false => displaySwitchedOff q
  | false, true => displaySwitchedOn clock q
  | _, _ => q

/-! ## The schedule and the gates (R436, R437) -/

/-- Clock cycles of one scanline. -/
def lineCycles : Nat := 456

/-- Clock cycles of one refresh period: 154 lines. -/
def periodCycles : Nat := 70224

/-- The line and mode at display clock `dc`, with mode 3 of `mode3Len` cycles (R436). -/
def schedule (mode3Len dc : Nat) : Nat × PpuMode :=
  let p := dc % periodCycles
  let line := p / lineCycles
  let x := p % lineCycles
  (line,
    if 144 ≤ line then .vblank
    else if x < 80 then .oamScan
    else if x < 80 + mode3Len then .transfer
    else .hblank)

/-- `vram_access` in a mode (R437). -/
def vramGate (m : PpuMode) : Bool :=
  match m with
  | .transfer => false
  | _ => true

/-- `oam_access` in a mode (R437). -/
def oamGate (m : PpuMode) : Bool :=
  match m with
  | .oamScan => false
  | .transfer => false
  | _ => true

/-! ## Rendering (R450 to R453) -/

/-- `Shade(pal, c)` (R450). -/
def shadeOf (pal : Byte) (c : BitVec 2) : Shade := pal.extractLsb' (2 * c.toNat) 2

/-- `TileRowPixel(taddr, row, col)`, `taddr` given as its offset in `VRAM` (R450). -/
def tileRowPixel (vram : Memory) (tileOffset row col : Nat) : BitVec 2 :=
  let lo := vram.read (tileOffset + 2 * row)
  let hi := vram.read (tileOffset + 2 * row + 1)
  BitVec.ofBool (hi.getLsbD (7 - col)) ++ BitVec.ofBool (lo.getLsbD (7 - col))

/-- The offset in `VRAM` of the data of background or window tile `t`: unsigned from 0x8000 or signed from 0x9000, as
`LCDC[4]` says (R450). -/
def tileDataOffset (lcdc t : Byte) : Nat :=
  if lcdc.getLsbD 4 then 16 * t.toNat
  else if t.toNat < 0x80 then 0x1000 + 16 * t.toNat
  else 16 * t.toNat

/-- `TilePixel(map, px, py)` (R450). -/
def tilePixel (lcdc : Byte) (vram : Memory) (map : Bool) (px py : Nat) : BitVec 2 :=
  let base := if map then 0x1C00 else 0x1800
  let t := vram.read (base + 32 * (py / 8) + px / 8)
  tileRowPixel vram (tileDataOffset lcdc t) (py % 8) (px % 8)

/-- The window covers pixel `x` of line `ly`: enabled and in bounds (R450). -/
def windowCovers (p : Ppu) (ly x : Nat) : Bool :=
  p.lcdc.getLsbD 5 && decide (p.wy.toNat ≤ ly) && decide (p.wx.toNat ≤ x + 7)

/-- The background or window colour index of a pixel, `idx[x]` (R450). -/
def backgroundIndex (p : Ppu) (vram : Memory) (ly x : Nat) : BitVec 2 :=
  if windowCovers p ly x then
    tilePixel p.lcdc vram (p.lcdc.getLsbD 6) (x + 7 - p.wx.toNat) (ly - p.wy.toNat)
  else if p.lcdc.getLsbD 0 then
    tilePixel p.lcdc vram (p.lcdc.getLsbD 3) ((x + p.scx.toNat) % 256) ((ly + p.scy.toNat) % 256)
  else 0

/-- A sprite descriptor, with its index in `OAM` (R451). -/
structure Sprite where
  index : Nat
  y     : Byte
  x     : Byte
  tile  : Byte
  attr  : Byte
  deriving DecidableEq, Repr

/-- Entry `i` of `OAM` (R451). -/
def spriteAt (oam : Memory) (i : Nat) : Sprite :=
  { index := i, y := oam.read (4 * i), x := oam.read (4 * i + 1), tile := oam.read (4 * i + 2)
    attr := oam.read (4 * i + 3) }

/-- The sprite height that `LCDC[2]` selects. -/
def spriteHeight (p : Ppu) : Nat := if p.lcdc.getLsbD 2 then 16 else 8

/-- A sprite overlaps line `ly`: vertically only (R452). -/
def spriteOnLine (h ly : Nat) (s : Sprite) : Bool :=
  decide (s.y.toNat ≤ ly + 16) && decide (ly + 16 < s.y.toNat + h)

/-- `a` beats `b`: lower `X`, then lower index (R452). -/
def spriteBeats (a b : Sprite) : Bool :=
  decide (a.x.toNat < b.x.toNat) || (decide (a.x = b.x) && decide (a.index < b.index))

/-- Inserts a sprite in a list sorted lowest priority first. -/
def insertSprite (s : Sprite) : List Sprite → List Sprite
  | [] => [s]
  | t :: ts => if spriteBeats t s then s :: t :: ts else t :: insertSprite s ts

/-- Sorts sprites, lowest priority first. -/
def sortSprites : List Sprite → List Sprite
  | [] => []
  | s :: ss => insertSprite s (sortSprites ss)

/-- `SelectSprites(ly)`: at most the 10 of highest priority, lowest priority first (R452). -/
def selectSprites (p : Ppu) (oam : Memory) (ly : Nat) : List Sprite :=
  let cand := sortSprites (((List.range 40).map (spriteAt oam)).filter (spriteOnLine (spriteHeight p) ly))
  cand.drop (cand.length - 10)

/-- The shade that a sprite paints at pixel `sx` of line `ly` over background index `under`, if it paints there
(`DrawSprite`, R453). -/
def spriteShade (p : Ppu) (vram : Memory) (ly sx : Nat) (under : BitVec 2) (s : Sprite) : Option Shade :=
  let h := spriteHeight p
  let col := sx + 8 - s.x.toNat
  if sx + 8 < s.x.toNat ∨ 8 ≤ col then none
  else
    let row0 := ly + 16 - s.y.toNat
    let row := if s.attr.getLsbD 6 then h - 1 - row0 else row0
    let t : Nat := if h = 8 then s.tile.toNat else s.tile.toNat / 2 * 2 + (if 8 ≤ row then 1 else 0)
    let c := tileRowPixel vram (16 * t) (row % 8) (if s.attr.getLsbD 5 then 7 - col else col)
    if c = 0 then none
    else if s.attr.getLsbD 7 && decide (under ≠ 0) then none
    else some (shadeOf (if s.attr.getLsbD 4 then p.obp1 else p.obp0) c)

/-- One pixel: the sprites painted in order over the background's shade (R450, R453). -/
def pixelShade (p : Ppu) (vram : Memory) (sprites : List Sprite) (ly x : Nat) : Shade :=
  let under := backgroundIndex p vram ly x
  sprites.foldl (fun shade s => (spriteShade p vram ly x under s).getD shade) (shadeOf p.bgp under)

/-- The 160 shades of line `ly` (R450). -/
def lineShades (p : Ppu) (vram oam : Memory) (ly : Nat) : List Shade :=
  let sprites := if p.lcdc.getLsbD 1 then selectSprites p oam ly else []
  (List.range 160).map (pixelShade p vram sprites ly)

/-- Puts a row in a frame, keeping the rows in line order. -/
def setRow (ly : Nat) (row : List Shade) : Frame → Frame
  | [] => [(ly, row)]
  | (k, r) :: f =>
    if ly < k then (ly, row) :: (k, r) :: f
    else if ly = k then (ly, row) :: f
    else (k, r) :: setRow ly row f

/-- `RenderLine(ly)` (R450). -/
def renderLine (ly : Nat) (vram oam : Memory) (p : Ppu) : Ppu :=
  { p with frame := setRow ly (lineShades p vram oam ly) p.frame }

/-- `PublishFrame()` (R446). What the next private buffer holds is unspecified: no row of it has been drawn (log 19). -/
def publishFrame (p : Ppu) : Ppu :=
  if p.swallowFrame then { p with swallowFrame := false }
  else { p with frame := [], published := some p.frame, framesPublished := p.framesPublished + 1 }

/-! ## The PPU step (R438) -/

/-- What entering `mode` on `line` does to the PPU: the gates of R437, then a line rendered on entering mode 3, or a
frame published on entering line 144. -/
def enterMode (line : Nat) (mode : PpuMode) (vram oam : Memory) (p : Ppu) : Ppu :=
  let q := { p with line := line, mode := mode, vramAccess := vramGate mode, oamAccess := oamGate mode }
  match mode with
  | .transfer => renderLine line vram oam q
  | .vblank => if line = 144 then publishFrame q else q
  | _ => q

/-- Entering line 144 requests the vblank interrupt (R440). -/
def entersVblank (line : Nat) (mode : PpuMode) : Bool := decide (mode = .vblank) && decide (line = 144)

/-- `PpuStep()` (R438). -/
def ppuStep (s : State) : State :=
  if !displayOn s.ppu then s
  else if s.cpuClock < s.ppu.displayEnableTime then s
  else
    let (line, mode) := schedule s.params.mode3Len (s.cpuClock - s.ppu.displayEnableTime)
    if line = s.ppu.line ∧ mode = s.ppu.mode then s
    else
      statUpdate
        { s with
          ppu := enterMode line mode s.vram s.oam s.ppu
          iflag := requestInterrupt 0 (entersVblank line mode) s.iflag }

end Sys2Proof.Machine
end

