-- ==== Sys2Proof/Machine/Bus.lean ====
section
/-! DEFINITION. The bus (20_memory.md): the address map of R75, the register table of R100, and the loads and stores
of the CPU and of the OAM DMA copy, total on every address. -/

namespace Sys2Proof.Machine

/-! ## The map -/

/-- The handlers of the I/O page (R100). -/
inductive IoReg where
  | joyp | sb | sc | div | tima | tma | tac | ifReg
  | apu (r : ApuReg)
  | nr52
  | wave (offset : Nat)
  | lcdc | stat | scy | scx | ly | lyc | dma | bgp | obp0 | obp1 | wy | wx | boot
  | unmapped
  deriving DecidableEq, Repr

/-- The handler that the low address byte selects in the I/O page, for `low` below 0x80 (R70, R100); an address not
listed is unmapped (R101). -/
def ioReg (low : Nat) : IoReg :=
  match low with
  | 0x00 => .joyp | 0x01 => .sb | 0x02 => .sc
  | 0x04 => .div | 0x05 => .tima | 0x06 => .tma | 0x07 => .tac
  | 0x0F => .ifReg
  | 0x10 => .apu .nr10 | 0x11 => .apu .nr11 | 0x12 => .apu .nr12 | 0x13 => .apu .nr13 | 0x14 => .apu .nr14
  | 0x16 => .apu .nr21 | 0x17 => .apu .nr22 | 0x18 => .apu .nr23 | 0x19 => .apu .nr24
  | 0x1A => .apu .nr30 | 0x1B => .apu .nr31 | 0x1C => .apu .nr32 | 0x1D => .apu .nr33 | 0x1E => .apu .nr34
  | 0x20 => .apu .nr41 | 0x21 => .apu .nr42 | 0x22 => .apu .nr43 | 0x23 => .apu .nr44
  | 0x24 => .apu .nr50 | 0x25 => .apu .nr51
  | 0x26 => .nr52
  | 0x40 => .lcdc | 0x41 => .stat | 0x42 => .scy | 0x43 => .scx | 0x44 => .ly | 0x45 => .lyc | 0x46 => .dma
  | 0x47 => .bgp | 0x48 => .obp0 | 0x49 => .obp1 | 0x4A => .wy | 0x4B => .wx
  | 0x50 => .boot
  | n => if 0x30 ≤ n ∧ n < 0x40 then .wave (n - 0x30) else .unmapped

/-- The rows of the map (R75), each with the offset in its array or the bus address the cartridge sees. -/
inductive Region where
  | boot (offset : Nat)
  | cart (address : Nat)
  | vram (offset : Nat)
  | wram0 (offset : Nat)
  | wram1 (offset : Nat)
  | oam (offset : Nat)
  | oamTail
  | io (r : IoReg)
  | hram (offset : Nat)
  | ie
  deriving DecidableEq, Repr

/-- The first row of the map that holds address `a` (R75). -/
def regionOf (boot : Bool) (a : Nat) : Region :=
  if boot ∧ a < 0x100 then .boot a
  else if a < 0x8000 then .cart a
  else if a < 0xA000 then .vram (a - 0x8000)
  else if a < 0xC000 then .cart a
  else if a < 0xD000 then .wram0 (a - 0xC000)
  else if a < 0xE000 then .wram1 (a - 0xD000)
  else if a < 0xF000 then .wram0 (a - 0xE000)
  else if a < 0xFE00 then .wram1 (a - 0xF000)
  else if a < 0xFEA0 then .oam (a - 0xFE00)
  else if a < 0xFF00 then .oamTail
  else if a < 0xFF80 then .io (ioReg (a % 0x100))
  else if a < 0xFFFF then .hram (a - 0xFF80)
  else .ie

/-! ## Loads -/

/-- The load handler of an I/O register (R100). -/
def ioRead (s : State) (r : IoReg) : Byte :=
  match r with
  | .joyp => readJoyp s
  | .sb => s.sb
  | .sc => s.sc ||| 0x7E
  | .div => s.timer.div.extractLsb' 8 8
  | .tima => s.timer.tima
  | .tma => s.timer.tma
  | .tac => 0xF8 ||| s.timer.tac.setWidth 8
  | .ifReg => 0xE0 ||| s.iflag.setWidth 8
  | .apu r => readApuReg s.apu r
  | .nr52 => readNr52 s.apu
  | .wave k => s.waveRam.read k
  | .lcdc => s.ppu.lcdc
  | .stat => readStat s.ppu
  | .scy => s.ppu.scy
  | .scx => s.ppu.scx
  | .ly => readLy s.ppu
  | .lyc => s.ppu.lyc
  | .dma => s.dma
  | .bgp => s.ppu.bgp
  | .obp0 => s.ppu.obp0
  | .obp1 => s.ppu.obp1
  | .wy => s.ppu.wy
  | .wx => s.ppu.wx
  | .boot => 0xFF
  | .unmapped => 0xFF

/-- What a load from a row of the map returns (R75, R77). -/
def regionRead (s : State) (r : Region) : Byte :=
  match r with
  | .boot k => s.bootRom.read k
  | .cart a => cartRead s.cart a
  | .vram k => if s.ppu.vramAccess then s.vram.read k else 0xFF
  | .wram0 k => s.wram0.read k
  | .wram1 k => s.wram1.read k
  | .oam k => if s.ppu.oamAccess then s.oam.read k else 0xFF
  | .oamTail => 0x00
  | .io r => ioRead s r
  | .hram k => s.hram.read k
  | .ie => s.ie

/-- `MemRead(addr, 1)` (R71). -/
def busRead (s : State) (addr : Word) : Byte := regionRead s (regionOf s.bootEnabled addr.toNat)

/-! ## Stores -/

/-- The store handler of an I/O register (R100). -/
def ioWrite (r : IoReg) (v : Byte) (s : State) : State :=
  match r with
  | .joyp => writeJoyp v s
  | .sb => { s with sb := v }
  | .sc => { s with sc := v }
  | .div => { s with timer := writeDiv s.timer }
  | .tima => { s with timer := writeTima s.params.timaWriteCancelsReload s.timer v }
  | .tma => { s with timer := { s.timer with tma := v } }
  | .tac => { s with timer := writeTac s.timer v }
  | .ifReg => { s with iflag := v.setWidth 5 }
  | .apu r => { s with apu := writeApuReg r v s.apu }
  | .nr52 => { s with apu := writeNr52 v s.apu }
  | .wave k => { s with waveRam := s.waveRam.write k v }
  | .lcdc => { s with ppu := writeLcdc s.cpuClock v s.ppu }
  | .stat => writeStat v s
  | .scy => { s with ppu := { s.ppu with scy := v } }
  | .scx => { s with ppu := { s.ppu with scx := v } }
  | .ly => s
  | .lyc => writeLyc v s
  | .dma => { s with dma := v, dmaPending := true }
  | .bgp => { s with ppu := { s.ppu with bgp := v } }
  | .obp0 => { s with ppu := { s.ppu with obp0 := v } }
  | .obp1 => { s with ppu := { s.ppu with obp1 := v } }
  | .wy => { s with ppu := { s.ppu with wy := v } }
  | .wx => { s with ppu := { s.ppu with wx := v } }
  | .boot => { s with bootEnabled := false }
  | .unmapped => s

/-- A store to the cartridge. -/
def storeCart (a : Nat) (v : Byte) (s : State) : State :=
  let r := cartWrite s.cart s.hostClock a v
  { s with cart := r.1, hostClock := r.2 }

/-- What a store to a row of the map does (R75, R77); a store under the boot overlay goes to the cartridge (R78). -/
def regionWrite (r : Region) (v : Byte) (s : State) : State :=
  match r with
  | .boot a => storeCart a v s
  | .cart a => storeCart a v s
  | .vram k => if s.ppu.vramAccess then { s with vram := s.vram.write k v } else s
  | .wram0 k => { s with wram0 := s.wram0.write k v }
  | .wram1 k => { s with wram1 := s.wram1.write k v }
  | .oam k => if s.ppu.oamAccess then { s with oam := s.oam.write k v } else s
  | .oamTail => s
  | .io r => ioWrite r v s
  | .hram k => { s with hram := s.hram.write k v }
  | .ie => { s with ie := v }

/-- `MemWrite(addr, 1, v)` (R72). -/
def busWrite (addr : Word) (v : Byte) (s : State) : State := regionWrite (regionOf s.bootEnabled addr.toNat) v s

/-- `MemRead(addr, 2)`: the low byte at `addr`, the high byte at `u16(addr + 1)` (R10, R74). -/
def busRead16 (s : State) (addr : Word) : Word := wordOf (busRead s addr) (busRead s (addr + 1))

/-- `MemWrite(addr, 2, v)`: the low byte first (R10, R74). -/
def busWrite16 (addr v : Word) (s : State) : State := busWrite (addr + 1) (highByte v) (busWrite addr (lowByte v) s)

end Sys2Proof.Machine
end

