-- ==== Sys2Proof/Machine/Flags.lean ====
section
/-! DEFINITION. The results and flags of the arithmetic, logic, rotate, shift and bit operations, as functions of the
operand bytes and the old flags (R47, 42_alu8.md, 43_alu16.md, 44_rotate_shift_bit.md). Carries are comparisons of
exact sums (R257). -/

namespace Sys2Proof.Machine

/-! ## The flag byte (R22) -/

/-- `F` as a byte: Z N H C in bits 7 to 4, bits 3:0 zero. -/
def Flags.toByte (f : Flags) : Byte := bitAt 7 f.z ||| bitAt 6 f.n ||| bitAt 5 f.h ||| bitAt 4 f.c

/-- The flags a byte written to `F` leaves: bits 3:0 are ignored. -/
def Flags.ofByte (v : Byte) : Flags :=
  { z := v.getLsbD 7, n := v.getLsbD 6, h := v.getLsbD 5, c := v.getLsbD 4 }

/-! ## 8-bit arithmetic and logic (42_alu8.md) -/

/-- `a + x + carry-in`: ADD with carry-in 0 (R241), ADC with `F.C` (R242). -/
def addWith (cin : Bool) (a x : Byte) : Byte × Flags :=
  let s := a.toNat + x.toNat + cin.toNat
  let r := BitVec.ofNat 8 s
  (r, { z := r = 0, n := false, h := lowNibble a + lowNibble x + cin.toNat > 0xF, c := s > 0xFF })

/-- `a - x - borrow-in`: SUB with 0 (R243), SBC with `F.C` (R244). -/
def subWith (cin : Bool) (a x : Byte) : Byte × Flags :=
  let r := a - x - BitVec.ofNat 8 cin.toNat
  (r, { z := r = 0, n := true, h := lowNibble a < lowNibble x + cin.toNat, c := a.toNat < x.toNat + cin.toNat })

/-- The result of AND, XOR, OR: Z from the result, N and C cleared, H as given (R245, R246, R247). -/
def logicResult (h : Bool) (r : Byte) : Byte × Flags := (r, { z := r = 0, n := false, h := h, c := false })

/-- CP: the flags of SUB, `A` kept (R248). -/
def compare8 (a x : Byte) : Byte × Flags := (a, (subWith false a x).2)

/-- The new `A` and flags of `alu[o]` on `A` and `x` (R241 to R248). -/
def aluResult (o : AluOp) (a x : Byte) (f : Flags) : Byte × Flags :=
  match o with
  | .add => addWith false a x
  | .adc => addWith f.c a x
  | .sub => subWith false a x
  | .sbc => subWith f.c a x
  | .and => logicResult true (a &&& x)
  | .xor => logicResult false (a ^^^ x)
  | .or => logicResult false (a ||| x)
  | .cp => compare8 a x

/-- INC of a byte: the carry flag is not touched (R249, R250). -/
def incByte (v : Byte) (f : Flags) : Byte × Flags :=
  let r := v + 1
  (r, { z := r = 0, n := false, h := lowNibble v = 0xF, c := f.c })

/-- DEC of a byte: the carry flag is not touched (R251, R252). -/
def decByte (v : Byte) (f : Flags) : Byte × Flags :=
  let r := v - 1
  (r, { z := r = 0, n := true, h := lowNibble v = 0x0, c := f.c })

/-- The adjustment of DAA after an addition: both tests read `A` before the adjustment (R253). -/
def daaAdd (a : Byte) (f : Flags) : Byte × Bool :=
  let low : Byte := if f.h || decide (lowNibble a > 9) then 0x06 else 0
  let high : Bool := f.c || decide (a.toNat > 0x99)
  (a + (low ||| (if high then 0x60 else 0)), high)

/-- The adjustment of DAA after a subtraction: `A` is not tested, the carry is left (R253). -/
def daaSub (a : Byte) (f : Flags) : Byte × Bool :=
  let low : Byte := if f.h then 0x06 else 0
  (a - (low ||| (if f.c then 0x60 else 0)), f.c)

/-- DAA (R253). -/
def daaResult (a : Byte) (f : Flags) : Byte × Flags :=
  let (r, c) := if f.n then daaSub a f else daaAdd a f
  (r, { z := r = 0, n := f.n, h := false, c := c })

/-- CPL (R254). -/
def cplResult (a : Byte) (f : Flags) : Byte × Flags := (~~~a, { f with n := true, h := true })

/-- SCF (R255). -/
def scfFlags (f : Flags) : Flags := { f with n := false, h := false, c := true }

/-- CCF (R256). -/
def ccfFlags (f : Flags) : Flags := { f with n := false, h := false, c := !f.c }

/-! ## 16-bit arithmetic (43_alu16.md, R224) -/

/-- `ADD HL,rr`: carries out of bits 11 and 15, Z kept (R271). -/
def addHlResult (hl v : Word) (f : Flags) : Word × Flags :=
  (hl + v, { z := f.z, n := false, h := hl.toNat % 0x1000 + v.toNat % 0x1000 > 0xFFF
             c := hl.toNat + v.toNat > 0xFFFF })

/-- `SP + e8`: H and C are the carries of the unsigned addition of the low bytes (R224, R272). -/
def addSpResult (sp : Word) (n : Byte) : Word × Flags :=
  (sp + sext16 n, { z := false, n := false, h := sp.toNat % 16 + lowNibble n > 0xF
                    c := sp.toNat % 256 + n.toNat > 0xFF })

/-! ## Rotates, shifts and bits (44_rotate_shift_bit.md) -/

/-- The result and the bit shifted out of `rot[o]` on `v` with the carry flag `cin` (R285 to R292). -/
def rotate (o : RotOp) (v : Byte) (cin : Bool) : Byte × Bool :=
  match o with
  | .rlc => ((v <<< 1) ||| bitAt 0 (v.getLsbD 7), v.getLsbD 7)
  | .rrc => ((v >>> 1) ||| bitAt 7 (v.getLsbD 0), v.getLsbD 0)
  | .rl => ((v <<< 1) ||| bitAt 0 cin, v.getLsbD 7)
  | .rr => ((v >>> 1) ||| bitAt 7 cin, v.getLsbD 0)
  | .sla => (v <<< 1, v.getLsbD 7)
  | .sra => ((v >>> 1) ||| (v &&& 0x80), v.getLsbD 0)
  | .swap => ((v <<< 4) ||| (v >>> 4), false)
  | .srl => (v >>> 1, v.getLsbD 0)

/-- `rot[o]` of the CB page: Z from the result, N and H cleared (R285 to R292). -/
def rotResult (o : RotOp) (v : Byte) (f : Flags) : Byte × Flags :=
  let (r, c) := rotate o v f.c
  (r, { z := r = 0, n := false, h := false, c := c })

/-- The accumulator rotates: Z is cleared even when the result is zero (R280 to R283). -/
def rotAResult (o : RotOp) (v : Byte) (f : Flags) : Byte × Flags :=
  let (r, c) := rotate o v f.c
  (r, { z := false, n := false, h := false, c := c })

/-- BIT: Z is the complement of the bit, C is kept (R293). -/
def bitFlags (k : BitNo) (v : Byte) (f : Flags) : Flags :=
  { z := !v.getLsbD k.toNat, n := false, h := true, c := f.c }

/-- RES (R294). -/
def resByte (k : BitNo) (v : Byte) : Byte := v &&& ~~~(bitAt k.toNat true)

/-- SET (R295). -/
def setByte (k : BitNo) (v : Byte) : Byte := v ||| bitAt k.toNat true

end Sys2Proof.Machine
end

