-- ==== Sys2Proof/Machine/Operands.lean ====
section
/-! DEFINITION. The operand forms: register pairs as aliases of their bytes (R20), the tables of R143, and the effective
addresses of R180. -/

namespace Sys2Proof.Machine

/-! ## Registers -/

/-- The state with its register file changed. -/
def setRegs (s : State) (r : Regs) : State := { s with regs := r }

/-- `pc <- v`. -/
def setPc (v : Word) (s : State) : State := setRegs s { s.regs with pc := v }

/-- `SP <- v`. -/
def setSp (v : Word) (s : State) : State := setRegs s { s.regs with sp := v }

/-- `A <- v`. -/
def setA (v : Byte) (s : State) : State := setRegs s { s.regs with a := v }

/-- `F <- f`. -/
def setFlags (f : Flags) (s : State) : State := setRegs s { s.regs with f := f }

/-- `BC = B :: C`. -/
def Regs.bc (r : Regs) : Word := wordOf r.c r.b
/-- `DE = D :: E`. -/
def Regs.de (r : Regs) : Word := wordOf r.e r.d
/-- `HL = H :: L`. -/
def Regs.hl (r : Regs) : Word := wordOf r.l r.h
/-- `AF = A :: F`. -/
def Regs.af (r : Regs) : Word := wordOf r.f.toByte r.a

/-- `HL <- v`. -/
def setHl (v : Word) (s : State) : State := setRegs s { s.regs with h := highByte v, l := lowByte v }

/-- `r16[p]` (R143). -/
def getPair (p : Pair) (s : State) : Word :=
  match p with
  | .bc => s.regs.bc
  | .de => s.regs.de
  | .hl => s.regs.hl
  | .sp => s.regs.sp

/-- `r16[p] <- v` (R143, R20). -/
def setPair (p : Pair) (v : Word) (s : State) : State :=
  match p with
  | .bc => setRegs s { s.regs with b := highByte v, c := lowByte v }
  | .de => setRegs s { s.regs with d := highByte v, e := lowByte v }
  | .hl => setHl v s
  | .sp => setSp v s

/-- `r16stk[p]` (R143). -/
def getStkPair (p : StkPair) (s : State) : Word :=
  match p with
  | .bc => s.regs.bc
  | .de => s.regs.de
  | .hl => s.regs.hl
  | .af => s.regs.af

/-- `r16stk[p] <- v`: bits 3:0 of a byte written to `F` are ignored (R22, R226). -/
def setStkPair (p : StkPair) (v : Word) (s : State) : State :=
  match p with
  | .bc => setPair .bc v s
  | .de => setPair .de v s
  | .hl => setHl v s
  | .af => setRegs s { s.regs with a := highByte v, f := Flags.ofByte (lowByte v) }

/-! ## 8-bit operands -/

/-- `r8[i]`; index 6 is the memory byte at `HL` (R143). -/
def getOperand8 (o : Operand8) (s : State) : Byte :=
  match o with
  | .b => s.regs.b
  | .c => s.regs.c
  | .d => s.regs.d
  | .e => s.regs.e
  | .h => s.regs.h
  | .l => s.regs.l
  | .atHl => busRead s s.regs.hl
  | .a => s.regs.a

/-- `r8[i] <- v` (R143). -/
def setOperand8 (o : Operand8) (v : Byte) (s : State) : State :=
  match o with
  | .b => setRegs s { s.regs with b := v }
  | .c => setRegs s { s.regs with c := v }
  | .d => setRegs s { s.regs with d := v }
  | .e => setRegs s { s.regs with e := v }
  | .h => setRegs s { s.regs with h := v }
  | .l => setRegs s { s.regs with l := v }
  | .atHl => busWrite s.regs.hl v s
  | .a => setA v s

/-! ## Pointers and conditions -/

/-- The address a pointer gives (R186 to R189, R196 to R199). -/
def pointerAddress (p : Pointer) (s : State) : Word :=
  match p with
  | .bc => s.regs.bc
  | .de => s.regs.de
  | .hlInc => s.regs.hl
  | .hlDec => s.regs.hl

/-- The step of `HL` after the access: `HL+` and `HL-` (R196 to R199). -/
def stepPointer (p : Pointer) (s : State) : State :=
  match p with
  | .bc => s
  | .de => s
  | .hlInc => setHl (s.regs.hl + 1) s
  | .hlDec => setHl (s.regs.hl - 1) s

/-- `cond(cc)` (R11). -/
def condHolds (cc : Cond) (f : Flags) : Bool :=
  match cc with
  | .nz => !f.z
  | .z => f.z
  | .nc => !f.c
  | .c => f.c

end Sys2Proof.Machine
end

