-- ==== Sys2Proof/Machine/Ops.lean ====
section
/-! DEFINITION. The shared operations: fetch and stack primitives (R11), the operations that the families of
instructions share, taking an interrupt and returning from one (R322, R356), the OAM DMA copy (R110) and the fatal
faults (R370). -/

namespace Sys2Proof.Machine

/-! ## Fetch (R11, R145) -/

/-- The address of the first operand byte: `FetchOpcode` does not advance `pc` while `halt_bug` is set (R30). -/
def operandAddress (s : State) : Word := if s.haltBug then s.regs.pc else s.regs.pc + 1

/-- The instruction at `pc`: the opcode byte and the two bytes after it, of which it uses what it needs (log 15). -/
def fetchInstr (s : State) : Instr :=
  decodeBytes (busRead s s.regs.pc) (busRead s (operandAddress s)) (busRead s (operandAddress s + 1))

/-- The opcode byte consumed: `pc` is left at the first operand byte, and `halt_bug` is cleared (R11). -/
def consumeOpcode (s : State) : State := { setPc (operandAddress s) s with haltBug := false }

/-- The fetch of instruction `i` done: `pc` past all its bytes (R26). -/
def afterFetch (i : Instr) (s : State) : State :=
  let t := consumeOpcode s
  setPc (t.regs.pc + BitVec.ofNat 16 ((encode i).length - 1)) t

/-! ## Stack (R11) -/

/-- `Push16(v)`: the high byte at `SP - 1`, then the low byte at `SP - 2`. -/
def push16 (v : Word) (s : State) : State :=
  let t := busWrite (s.regs.sp - 1) (highByte v) (setSp (s.regs.sp - 1) s)
  busWrite (s.regs.sp - 2) (lowByte v) (setSp (s.regs.sp - 2) t)

/-- The word `Pop16()` returns. -/
def pop16Value (s : State) : Word := busRead16 s s.regs.sp

/-- `SP` after `Pop16()`. -/
def pop16 (s : State) : State := setSp (s.regs.sp + 2) s

/-! ## Operations shared by instructions -/

/-- `r8[dst] <- r8[src]` (R181, R183, R184). -/
def copy8 (dst src : Operand8) (s : State) : State := setOperand8 dst (getOperand8 src s) s

/-- `r8[o]` replaced by a function of itself and the flags, which are replaced too: one load, then one store (R250,
R284). -/
def modify8 (f : Byte → Flags → Byte × Flags) (o : Operand8) (s : State) : State :=
  let r := f (getOperand8 o s) s.regs.f
  setFlags r.2 (setOperand8 o r.1 s)

/-- `alu[o]` on `A` and `x` (R240). -/
def aluWith (o : AluOp) (x : Byte) (s : State) : State :=
  let r := aluResult o s.regs.a x s.regs.f
  setFlags r.2 (setA r.1 s)

/-- `A` and the flags replaced by a function of themselves (R253, R254, R280 to R283). -/
def modifyA (f : Byte → Flags → Byte × Flags) (s : State) : State :=
  let r := f s.regs.a s.regs.f
  setFlags r.2 (setA r.1 s)

/-- `MemWrite(p, 1, A)`, then the pointer's step (R188, R189, R196, R198). -/
def storeAVia (p : Pointer) (s : State) : State := stepPointer p (busWrite (pointerAddress p s) s.regs.a s)

/-- `A <- MemRead(p, 1)`, then the pointer's step (R186, R187, R197, R199). -/
def loadAVia (p : Pointer) (s : State) : State := stepPointer p (setA (busRead s (pointerAddress p s)) s)

/-- `A <- MemRead(addr, 1)`. -/
def loadAFrom (addr : Word) (s : State) : State := setA (busRead s addr) s

/-- `MemWrite(addr, 1, A)`. -/
def storeATo (addr : Word) (s : State) : State := busWrite addr s.regs.a s

/-- `ADD HL,r16[p]` (R271). -/
def addHlPair (p : Pair) (s : State) : State :=
  let r := addHlResult s.regs.hl (getPair p s) s.regs.f
  setFlags r.2 (setHl r.1 s)

/-- `ADD SP,e8` (R272). -/
def addToSp (e : Byte) (s : State) : State :=
  let r := addSpResult s.regs.sp e
  setFlags r.2 (setSp r.1 s)

/-- `LD HL,SP+e8`: `SP` is kept (R224). -/
def loadHlFromSp (e : Byte) (s : State) : State :=
  let r := addSpResult s.regs.sp e
  setFlags r.2 (setHl r.1 s)

/-- `PUSH r16stk[p]` (R225). -/
def pushPair (p : StkPair) (s : State) : State := push16 (getStkPair p s) s

/-- `POP r16stk[p]` (R226). -/
def popPair (p : StkPair) (s : State) : State := setStkPair p (pop16Value s) (pop16 s)

/-- `INC r16[p]` (R273). -/
def incPair16 (p : Pair) (s : State) : State := setPair p (getPair p s + 1) s

/-- `DEC r16[p]` (R274). -/
def decPair16 (p : Pair) (s : State) : State := setPair p (getPair p s - 1) s

/-- `BIT k,r8[o]` (R293). -/
def testBit8 (k : BitNo) (o : Operand8) (s : State) : State := setFlags (bitFlags k (getOperand8 o s) s.regs.f) s

/-- `RES k,r8[o]` (R294). -/
def clearBit8 (k : BitNo) (o : Operand8) (s : State) : State := setOperand8 o (resByte k (getOperand8 o s)) s

/-- `SET k,r8[o]` (R295). -/
def setBit8 (k : BitNo) (o : Operand8) (s : State) : State := setOperand8 o (setByte k (getOperand8 o s)) s

/-- `rot[o] r8[dst]` (R284 to R292). -/
def rotate8 (o : RotOp) (dst : Operand8) (s : State) : State := modify8 (rotResult o) dst s

/-- The CB-page entry `op`, by its fields (R151). -/
def cbPage (op : Byte) (s : State) : State :=
  let o := Operand8.ofIndex (fieldZ op)
  match fieldX op with
  | 0 => rotate8 (RotOp.ofIndex (fieldY op)) o s
  | 1 => testBit8 (BitNo.ofIndex (fieldY op)) o s
  | 2 => clearBit8 (BitNo.ofIndex (fieldY op)) o s
  | _ => setBit8 (BitNo.ofIndex (fieldY op)) o s

/-- `pc <- u16(pc + sext_16(e))` (R314). -/
def jumpRelative (e : Byte) (s : State) : State := setPc (s.regs.pc + sext16 e) s

/-- `Push16(pc); pc <- t` (R316, R325). -/
def callTo (t : Word) (s : State) : State := setPc t (push16 s.regs.pc s)

/-- `pc <- Pop16()` (R318). -/
def returnFrom (s : State) : State := setPc (pop16Value s) (pop16 s)

/-- `f` when the condition holds, else nothing. -/
def whenCond (cc : Cond) (f : State → State) (s : State) : State := if condHolds cc s.regs.f then f s else s

/-- The target of RST: `y * 8` (R325). -/
def rstTarget (k : BitNo) : Word := BitVec.ofNat 16 (k.toNat * 8)

/-! ## Interrupts (60_exceptions.md) -/

/-- `IE & IF & 0x1F` (R352). -/
def pendingSources (s : State) : BitVec 5 := s.ie.setWidth 5 &&& s.iflag

/-- The lowest source that is pending (R355). -/
def lowestSource (p : BitVec 5) : Nat :=
  if p.getLsbD 0 then 0 else if p.getLsbD 1 then 1 else if p.getLsbD 2 then 2 else if p.getLsbD 3 then 3 else 4

/-- The vector of source `n`: `0x0040 + 8 n` (R353). -/
def interruptVector (n : Nat) : Word := BitVec.ofNat 16 (0x40 + 8 * n)

/-- Taking interrupt `n` (R356): `pc` is pushed, `pc` goes to the vector, `IME` and `ime_pending` are cleared, and
request `n` is withdrawn after the push. Nothing else is saved; there is no mode to change (R372). -/
def interruptEntry (n : Nat) (s : State) : State :=
  let t := setPc (interruptVector n) (push16 s.regs.pc s)
  { t with ime := false, imePending := false, iflag := t.iflag &&& ~~~(BitVec.ofNat 5 (2 ^ n)) }

/-- Interrupts enabled after a return from a handler: at once, or one instruction later under `RETI_DELAYED` (R322).
DESIGN CHOICE (log 24), under `RETI_DELAYED` where `IME` is already 1 or RETI follows EI: the pseudocode is followed,
which leaves `IME` as it is, so the next step may take an interrupt before the instruction at the return address. -/
def enableAfterReturn (s : State) : State :=
  if s.params.retiDelayed then { s with imePending := true } else { s with ime := true, imePending := false }

/-- Returning from an interrupt (R322): `pc` is popped and interrupts are enabled; nothing else is restored (R358). -/
def returnFromInterrupt (s : State) : State := enableAfterReturn (returnFrom s)

/-! ## CPU control (46_cpu_control.md) -/

/-- The condition of the halt quirk: HALT directly after EI with an interrupt pending; or, under `HALT_BUG_CLASSIC`,
HALT with `IME` clear and an interrupt pending (R332). -/
def haltQuirk (s : State) : Bool :=
  decide (pendingSources s ≠ 0) && (s.imePending || (s.params.haltBugClassic && !s.ime))

/-- HALT (R332). -/
def haltCpu (s : State) : State := if haltQuirk s then { s with haltBug := true } else { s with cpuState := .halted }

/-! ## Fatal faults and OAM DMA -/

/-- `raise Fatal(reason, info)` (R370). -/
def raiseFatal (r : FatalReason) (s : State) : State := { s with cpuState := .faulted r }

/-- The bytes that the copy reads from page `page`, with the gates forced open (R110). -/
def dmaBytes (s : State) : List Byte :=
  let open_ := { s with ppu := { s.ppu with vramAccess := true, oamAccess := true } }
  (List.range 160).map fun i => busRead open_ (BitVec.ofNat 16 (s.dma.toNat * 256 + i))

/-- `DmaCopy()` where source and destination do not overlap (R110). -/
def dmaCopy (s : State) : State := { s with oam := Memory.ofBytes 0 (dmaBytes s), dmaPending := false }

/-- The pending DMA copy at the start of a step: page 0xFE overlaps the destination and is a fatal fault (R110,
R112). -/
def runDma (s : State) : State :=
  if !s.dmaPending then s
  else if s.dma = 0xFE then raiseFatal (.dmaOverlap s.dma) s
  else dmaCopy s

end Sys2Proof.Machine
end

