-- ==== Sys2Proof/Machine/Cost.lean ====
section
/-! DEFINITION. The parameter `COST` (R7): the default tables of R160 and R161, by the fields of the opcode, and its
changes. Costs are in machine cycles of 4 clock cycles (R6). -/

namespace Sys2Proof.Machine

/-- The quarter `x = 0` of the table of R160. -/
def baseCostX0 (y z : Nat) (taken : Bool) : Nat :=
  match z with
  | 0 =>
    match y with
    | 0 => 1
    | 1 => 5
    | 2 => 1
    | 3 => 3
    | _ => if taken then 3 else 2
  | 1 => if y % 2 = 0 then 3 else 2
  | 2 => 2
  | 3 => 2
  | 4 => if y = 6 then 3 else 1
  | 5 => if y = 6 then 3 else 1
  | 6 => if y = 6 then 3 else 2
  | _ => 1

/-- The quarter `x = 3` of the table of R160. The prefix and the illegal opcodes have no cost there; they are given 1,
which no step uses. -/
def baseCostX3 (y z : Nat) (taken : Bool) : Nat :=
  match z with
  | 0 =>
    match y with
    | 4 => 3
    | 5 => 4
    | 6 => 3
    | 7 => 3
    | _ => if taken then 5 else 2
  | 1 =>
    match y with
    | 1 => 4
    | 3 => 4
    | 5 => 1
    | 7 => 2
    | _ => 3
  | 2 =>
    match y with
    | 4 => 2
    | 5 => 4
    | 6 => 2
    | 7 => 4
    | _ => if taken then 4 else 3
  | 3 => if y = 0 then 4 else 1
  | 4 => if y < 4 then (if taken then 6 else 3) else 1
  | 5 => if y = 1 then 6 else if y % 2 = 0 then 4 else 1
  | 6 => 2
  | _ => 4

/-- The default cost of a base-page opcode (R160). -/
def baseCost (op : Byte) (taken : Bool) : Nat :=
  let y := fieldY op
  let z := fieldZ op
  match fieldX op with
  | 0 => baseCostX0 y z taken
  | 1 => if (y = 6 ∨ z = 6) ∧ ¬(y = 6 ∧ z = 6) then 2 else 1
  | 2 => if z = 6 then 2 else 1
  | _ => baseCostX3 y z taken

/-- The default cost of a CB-page opcode, the prefix included (R161). -/
def cbCost (op : Byte) : Nat :=
  if fieldZ op = 6 then (if fieldX op = 1 then 3 else 4) else 2

/-- The default of `COST` (R7). -/
def defaultCost (op : Byte) (prefixed taken : Bool) : Nat := if prefixed then cbCost op else baseCost op taken

/-- `COST`: the first change that applies, else the default (R7, log 7). -/
def costOf (changes : List CostEntry) (op : Byte) (prefixed taken : Bool) : Nat :=
  match changes with
  | [] => defaultCost op prefixed taken
  | e :: es =>
    if e.opcode = op ∧ e.prefixed = prefixed ∧ e.taken = taken then e.machineCycles
    else costOf es op prefixed taken

/-- The opcode byte and page that `COST` is asked about; for a lone prefix byte, those of the entry it selects. -/
def costKey (i : Instr) (s : State) : Byte × Bool :=
  match encode i with
  | [] => (0, false)
  | [op] => if op = 0xCB then (busRead s s.regs.pc, true) else (op, false)
  | op :: op2 :: _ => if op = 0xCB then (op2, true) else (op, false)

/-- The condition of a conditional transfer (R150), by its opcode. -/
def conditionOf (op : Byte) : Option Cond :=
  let y := fieldY op
  match fieldX op, fieldZ op with
  | 0, 0 => if 4 ≤ y then some (.ofIndex (y - 4)) else none
  | 3, 0 => if y < 4 then some (.ofIndex y) else none
  | 3, 2 => if y < 4 then some (.ofIndex y) else none
  | 3, 4 => if y < 4 then some (.ofIndex y) else none
  | _, _ => none

/-- `taken?` of R7: false when a conditional transfer's condition fails; true for every other instruction. -/
def isTaken (op : Byte) (prefixed : Bool) (f : Flags) : Bool :=
  if prefixed then true
  else
    match conditionOf op with
    | some cc => condHolds cc f
    | none => true

/-- The cost of instruction `i`, in machine cycles, in the state it runs in (R160, R161). -/
def instrCost (i : Instr) (s : State) : Nat :=
  let k := costKey i s
  costOf s.params.costChanges k.1 k.2 (isTaken k.1 k.2 s.regs.f)

end Sys2Proof.Machine
end

