-- ==== Sys2Proof/Machine/Alu16.lean ====
section
/-! DEFINITION. The meanings of 16-bit arithmetic (43_alu16.md): the effect of each instruction on a state whose
`pc` is already past the instruction's bytes (R12, R26). The clock advance of the step is not part of them. -/

namespace Sys2Proof.Machine

/-- `INC BC` (R273). -/
def execIncBc (s : State) : Host.Outcome State Fault Refusal := .next (incPair16 .bc s)

/-- `ADD HL,BC` (R271). -/
def execAddHlBc (s : State) : Host.Outcome State Fault Refusal := .next (addHlPair .bc s)

/-- `DEC BC` (R274). -/
def execDecBc (s : State) : Host.Outcome State Fault Refusal := .next (decPair16 .bc s)

/-- `INC DE` (R273). -/
def execIncDe (s : State) : Host.Outcome State Fault Refusal := .next (incPair16 .de s)

/-- `ADD HL,DE` (R271). -/
def execAddHlDe (s : State) : Host.Outcome State Fault Refusal := .next (addHlPair .de s)

/-- `DEC DE` (R274). -/
def execDecDe (s : State) : Host.Outcome State Fault Refusal := .next (decPair16 .de s)

/-- `INC HL` (R273). -/
def execIncHl (s : State) : Host.Outcome State Fault Refusal := .next (incPair16 .hl s)

/-- `ADD HL,HL` (R271). -/
def execAddHlHl (s : State) : Host.Outcome State Fault Refusal := .next (addHlPair .hl s)

/-- `DEC HL` (R274). -/
def execDecHl (s : State) : Host.Outcome State Fault Refusal := .next (decPair16 .hl s)

/-- `INC SP` (R273). -/
def execIncSp (s : State) : Host.Outcome State Fault Refusal := .next (incPair16 .sp s)

/-- `ADD HL,SP` (R271). -/
def execAddHlSp (s : State) : Host.Outcome State Fault Refusal := .next (addHlPair .sp s)

/-- `DEC SP` (R274). -/
def execDecSp (s : State) : Host.Outcome State Fault Refusal := .next (decPair16 .sp s)

/-- `ADD SP,e8` (R272). -/
def execAddSpE8 (e : Byte) (s : State) : Host.Outcome State Fault Refusal := .next (addToSp e s)

end Sys2Proof.Machine
end

