-- ==== Sys2Proof/Machine/Alu8.lean ====
section
/-! DEFINITION. The meanings of 8-bit arithmetic and logic (42_alu8.md): the effect of each instruction on a
state whose `pc` is already past the instruction's bytes (R12, R26). The clock advance of the step is not part
of them. -/

namespace Sys2Proof.Machine

/-- `INC B` (R249). -/
def execIncB (s : State) : Host.Outcome State Fault Refusal := .next (modify8 incByte .b s)

/-- `DEC B` (R251). -/
def execDecB (s : State) : Host.Outcome State Fault Refusal := .next (modify8 decByte .b s)

/-- `INC C` (R249). -/
def execIncC (s : State) : Host.Outcome State Fault Refusal := .next (modify8 incByte .c s)

/-- `DEC C` (R251). -/
def execDecC (s : State) : Host.Outcome State Fault Refusal := .next (modify8 decByte .c s)

/-- `INC D` (R249). -/
def execIncD (s : State) : Host.Outcome State Fault Refusal := .next (modify8 incByte .d s)

/-- `DEC D` (R251). -/
def execDecD (s : State) : Host.Outcome State Fault Refusal := .next (modify8 decByte .d s)

/-- `INC E` (R249). -/
def execIncE (s : State) : Host.Outcome State Fault Refusal := .next (modify8 incByte .e s)

/-- `DEC E` (R251). -/
def execDecE (s : State) : Host.Outcome State Fault Refusal := .next (modify8 decByte .e s)

/-- `INC H` (R249). -/
def execIncH (s : State) : Host.Outcome State Fault Refusal := .next (modify8 incByte .h s)

/-- `DEC H` (R251). -/
def execDecH (s : State) : Host.Outcome State Fault Refusal := .next (modify8 decByte .h s)

/-- `DAA` (R253). -/
def execDaa (s : State) : Host.Outcome State Fault Refusal := .next (modifyA daaResult s)

/-- `INC L` (R249). -/
def execIncL (s : State) : Host.Outcome State Fault Refusal := .next (modify8 incByte .l s)

/-- `DEC L` (R251). -/
def execDecL (s : State) : Host.Outcome State Fault Refusal := .next (modify8 decByte .l s)

/-- `CPL` (R254). -/
def execCpl (s : State) : Host.Outcome State Fault Refusal := .next (modifyA cplResult s)

/-- `INC (HL)` (R250). -/
def execIncAtHl (s : State) : Host.Outcome State Fault Refusal := .next (modify8 incByte .atHl s)

/-- `DEC (HL)` (R252). -/
def execDecAtHl (s : State) : Host.Outcome State Fault Refusal := .next (modify8 decByte .atHl s)

/-- `SCF` (R255). -/
def execScf (s : State) : Host.Outcome State Fault Refusal := .next (setFlags (scfFlags s.regs.f) s)

/-- `INC A` (R249). -/
def execIncA (s : State) : Host.Outcome State Fault Refusal := .next (modify8 incByte .a s)

/-- `DEC A` (R251). -/
def execDecA (s : State) : Host.Outcome State Fault Refusal := .next (modify8 decByte .a s)

/-- `CCF` (R256). -/
def execCcf (s : State) : Host.Outcome State Fault Refusal := .next (setFlags (ccfFlags s.regs.f) s)

/-- `ADD A,B` (R241). -/
def execAddAB (s : State) : Host.Outcome State Fault Refusal := .next (aluWith .add (getOperand8 .b s) s)

/-- `ADD A,C` (R241). -/
def execAddAC (s : State) : Host.Outcome State Fault Refusal := .next (aluWith .add (getOperand8 .c s) s)

/-- `ADD A,D` (R241). -/
def execAddAD (s : State) : Host.Outcome State Fault Refusal := .next (aluWith .add (getOperand8 .d s) s)

/-- `ADD A,E` (R241). -/
def execAddAE (s : State) : Host.Outcome State Fault Refusal := .next (aluWith .add (getOperand8 .e s) s)

/-- `ADD A,H` (R241). -/
def execAddAH (s : State) : Host.Outcome State Fault Refusal := .next (aluWith .add (getOperand8 .h s) s)

/-- `ADD A,L` (R241). -/
def execAddAL (s : State) : Host.Outcome State Fault Refusal := .next (aluWith .add (getOperand8 .l s) s)

/-- `ADD A,(HL)` (R241). -/
def execAddAAtHl (s : State) : Host.Outcome State Fault Refusal := .next (aluWith .add (getOperand8 .atHl s) s)

/-- `ADD A,A` (R241). -/
def execAddAA (s : State) : Host.Outcome State Fault Refusal := .next (aluWith .add (getOperand8 .a s) s)

/-- `ADC A,B` (R242). -/
def execAdcAB (s : State) : Host.Outcome State Fault Refusal := .next (aluWith .adc (getOperand8 .b s) s)

/-- `ADC A,C` (R242). -/
def execAdcAC (s : State) : Host.Outcome State Fault Refusal := .next (aluWith .adc (getOperand8 .c s) s)

/-- `ADC A,D` (R242). -/
def execAdcAD (s : State) : Host.Outcome State Fault Refusal := .next (aluWith .adc (getOperand8 .d s) s)

/-- `ADC A,E` (R242). -/
def execAdcAE (s : State) : Host.Outcome State Fault Refusal := .next (aluWith .adc (getOperand8 .e s) s)

/-- `ADC A,H` (R242). -/
def execAdcAH (s : State) : Host.Outcome State Fault Refusal := .next (aluWith .adc (getOperand8 .h s) s)

/-- `ADC A,L` (R242). -/
def execAdcAL (s : State) : Host.Outcome State Fault Refusal := .next (aluWith .adc (getOperand8 .l s) s)

/-- `ADC A,(HL)` (R242). -/
def execAdcAAtHl (s : State) : Host.Outcome State Fault Refusal := .next (aluWith .adc (getOperand8 .atHl s) s)

/-- `ADC A,A` (R242). -/
def execAdcAA (s : State) : Host.Outcome State Fault Refusal := .next (aluWith .adc (getOperand8 .a s) s)

/-- `SUB B` (R243). -/
def execSubB (s : State) : Host.Outcome State Fault Refusal := .next (aluWith .sub (getOperand8 .b s) s)

/-- `SUB C` (R243). -/
def execSubC (s : State) : Host.Outcome State Fault Refusal := .next (aluWith .sub (getOperand8 .c s) s)

/-- `SUB D` (R243). -/
def execSubD (s : State) : Host.Outcome State Fault Refusal := .next (aluWith .sub (getOperand8 .d s) s)

/-- `SUB E` (R243). -/
def execSubE (s : State) : Host.Outcome State Fault Refusal := .next (aluWith .sub (getOperand8 .e s) s)

/-- `SUB H` (R243). -/
def execSubH (s : State) : Host.Outcome State Fault Refusal := .next (aluWith .sub (getOperand8 .h s) s)

/-- `SUB L` (R243). -/
def execSubL (s : State) : Host.Outcome State Fault Refusal := .next (aluWith .sub (getOperand8 .l s) s)

/-- `SUB (HL)` (R243). -/
def execSubAtHl (s : State) : Host.Outcome State Fault Refusal := .next (aluWith .sub (getOperand8 .atHl s) s)

/-- `SUB A` (R243). -/
def execSubA (s : State) : Host.Outcome State Fault Refusal := .next (aluWith .sub (getOperand8 .a s) s)

/-- `SBC A,B` (R244). -/
def execSbcAB (s : State) : Host.Outcome State Fault Refusal := .next (aluWith .sbc (getOperand8 .b s) s)

/-- `SBC A,C` (R244). -/
def execSbcAC (s : State) : Host.Outcome State Fault Refusal := .next (aluWith .sbc (getOperand8 .c s) s)

/-- `SBC A,D` (R244). -/
def execSbcAD (s : State) : Host.Outcome State Fault Refusal := .next (aluWith .sbc (getOperand8 .d s) s)

/-- `SBC A,E` (R244). -/
def execSbcAE (s : State) : Host.Outcome State Fault Refusal := .next (aluWith .sbc (getOperand8 .e s) s)

/-- `SBC A,H` (R244). -/
def execSbcAH (s : State) : Host.Outcome State Fault Refusal := .next (aluWith .sbc (getOperand8 .h s) s)

/-- `SBC A,L` (R244). -/
def execSbcAL (s : State) : Host.Outcome State Fault Refusal := .next (aluWith .sbc (getOperand8 .l s) s)

/-- `SBC A,(HL)` (R244). -/
def execSbcAAtHl (s : State) : Host.Outcome State Fault Refusal := .next (aluWith .sbc (getOperand8 .atHl s) s)

/-- `SBC A,A` (R244). -/
def execSbcAA (s : State) : Host.Outcome State Fault Refusal := .next (aluWith .sbc (getOperand8 .a s) s)

/-- `AND B` (R245). -/
def execAndB (s : State) : Host.Outcome State Fault Refusal := .next (aluWith .and (getOperand8 .b s) s)

/-- `AND C` (R245). -/
def execAndC (s : State) : Host.Outcome State Fault Refusal := .next (aluWith .and (getOperand8 .c s) s)

/-- `AND D` (R245). -/
def execAndD (s : State) : Host.Outcome State Fault Refusal := .next (aluWith .and (getOperand8 .d s) s)

/-- `AND E` (R245). -/
def execAndE (s : State) : Host.Outcome State Fault Refusal := .next (aluWith .and (getOperand8 .e s) s)

/-- `AND H` (R245). -/
def execAndH (s : State) : Host.Outcome State Fault Refusal := .next (aluWith .and (getOperand8 .h s) s)

/-- `AND L` (R245). -/
def execAndL (s : State) : Host.Outcome State Fault Refusal := .next (aluWith .and (getOperand8 .l s) s)

/-- `AND (HL)` (R245). -/
def execAndAtHl (s : State) : Host.Outcome State Fault Refusal := .next (aluWith .and (getOperand8 .atHl s) s)

/-- `AND A` (R245). -/
def execAndA (s : State) : Host.Outcome State Fault Refusal := .next (aluWith .and (getOperand8 .a s) s)

/-- `XOR B` (R246). -/
def execXorB (s : State) : Host.Outcome State Fault Refusal := .next (aluWith .xor (getOperand8 .b s) s)

/-- `XOR C` (R246). -/
def execXorC (s : State) : Host.Outcome State Fault Refusal := .next (aluWith .xor (getOperand8 .c s) s)

/-- `XOR D` (R246). -/
def execXorD (s : State) : Host.Outcome State Fault Refusal := .next (aluWith .xor (getOperand8 .d s) s)

/-- `XOR E` (R246). -/
def execXorE (s : State) : Host.Outcome State Fault Refusal := .next (aluWith .xor (getOperand8 .e s) s)

/-- `XOR H` (R246). -/
def execXorH (s : State) : Host.Outcome State Fault Refusal := .next (aluWith .xor (getOperand8 .h s) s)

/-- `XOR L` (R246). -/
def execXorL (s : State) : Host.Outcome State Fault Refusal := .next (aluWith .xor (getOperand8 .l s) s)

/-- `XOR (HL)` (R246). -/
def execXorAtHl (s : State) : Host.Outcome State Fault Refusal := .next (aluWith .xor (getOperand8 .atHl s) s)

/-- `XOR A` (R246). -/
def execXorA (s : State) : Host.Outcome State Fault Refusal := .next (aluWith .xor (getOperand8 .a s) s)

/-- `OR B` (R247). -/
def execOrB (s : State) : Host.Outcome State Fault Refusal := .next (aluWith .or (getOperand8 .b s) s)

/-- `OR C` (R247). -/
def execOrC (s : State) : Host.Outcome State Fault Refusal := .next (aluWith .or (getOperand8 .c s) s)

/-- `OR D` (R247). -/
def execOrD (s : State) : Host.Outcome State Fault Refusal := .next (aluWith .or (getOperand8 .d s) s)

/-- `OR E` (R247). -/
def execOrE (s : State) : Host.Outcome State Fault Refusal := .next (aluWith .or (getOperand8 .e s) s)

/-- `OR H` (R247). -/
def execOrH (s : State) : Host.Outcome State Fault Refusal := .next (aluWith .or (getOperand8 .h s) s)

/-- `OR L` (R247). -/
def execOrL (s : State) : Host.Outcome State Fault Refusal := .next (aluWith .or (getOperand8 .l s) s)

/-- `OR (HL)` (R247). -/
def execOrAtHl (s : State) : Host.Outcome State Fault Refusal := .next (aluWith .or (getOperand8 .atHl s) s)

/-- `OR A` (R247). -/
def execOrA (s : State) : Host.Outcome State Fault Refusal := .next (aluWith .or (getOperand8 .a s) s)

/-- `CP B` (R248). -/
def execCpB (s : State) : Host.Outcome State Fault Refusal := .next (aluWith .cp (getOperand8 .b s) s)

/-- `CP C` (R248). -/
def execCpC (s : State) : Host.Outcome State Fault Refusal := .next (aluWith .cp (getOperand8 .c s) s)

/-- `CP D` (R248). -/
def execCpD (s : State) : Host.Outcome State Fault Refusal := .next (aluWith .cp (getOperand8 .d s) s)

/-- `CP E` (R248). -/
def execCpE (s : State) : Host.Outcome State Fault Refusal := .next (aluWith .cp (getOperand8 .e s) s)

/-- `CP H` (R248). -/
def execCpH (s : State) : Host.Outcome State Fault Refusal := .next (aluWith .cp (getOperand8 .h s) s)

/-- `CP L` (R248). -/
def execCpL (s : State) : Host.Outcome State Fault Refusal := .next (aluWith .cp (getOperand8 .l s) s)

/-- `CP (HL)` (R248). -/
def execCpAtHl (s : State) : Host.Outcome State Fault Refusal := .next (aluWith .cp (getOperand8 .atHl s) s)

/-- `CP A` (R248). -/
def execCpA (s : State) : Host.Outcome State Fault Refusal := .next (aluWith .cp (getOperand8 .a s) s)

/-- `ADD A,d8` (R241). -/
def execAddAD8 (n : Byte) (s : State) : Host.Outcome State Fault Refusal := .next (aluWith .add n s)

/-- `ADC A,d8` (R242). -/
def execAdcAD8 (n : Byte) (s : State) : Host.Outcome State Fault Refusal := .next (aluWith .adc n s)

/-- `SUB d8` (R243). -/
def execSubD8 (n : Byte) (s : State) : Host.Outcome State Fault Refusal := .next (aluWith .sub n s)

/-- `SBC A,d8` (R244). -/
def execSbcAD8 (n : Byte) (s : State) : Host.Outcome State Fault Refusal := .next (aluWith .sbc n s)

/-- `AND d8` (R245). -/
def execAndD8 (n : Byte) (s : State) : Host.Outcome State Fault Refusal := .next (aluWith .and n s)

/-- `XOR d8` (R246). -/
def execXorD8 (n : Byte) (s : State) : Host.Outcome State Fault Refusal := .next (aluWith .xor n s)

/-- `OR d8` (R247). -/
def execOrD8 (n : Byte) (s : State) : Host.Outcome State Fault Refusal := .next (aluWith .or n s)

/-- `CP d8` (R248). -/
def execCpD8 (n : Byte) (s : State) : Host.Outcome State Fault Refusal := .next (aluWith .cp n s)

end Sys2Proof.Machine
end

