-- ==== Sys2Proof/Machine/ControlFlow.lean ====
section
/-! DEFINITION. The meanings of control transfers (45_control_flow.md): the effect of each instruction on a
state whose `pc` is already past the instruction's bytes (R12, R26). The clock advance of the step is not part
of them. -/

namespace Sys2Proof.Machine

/-- `JR e8` (R314). -/
def execJrE8 (e : Byte) (s : State) : Host.Outcome State Fault Refusal := .next (jumpRelative e s)

/-- `JR NZ,e8` (R315). -/
def execJrNzE8 (e : Byte) (s : State) : Host.Outcome State Fault Refusal := .next (whenCond .nz (jumpRelative e) s)

/-- `JR Z,e8` (R315). -/
def execJrZE8 (e : Byte) (s : State) : Host.Outcome State Fault Refusal := .next (whenCond .z (jumpRelative e) s)

/-- `JR NC,e8` (R315). -/
def execJrNcE8 (e : Byte) (s : State) : Host.Outcome State Fault Refusal := .next (whenCond .nc (jumpRelative e) s)

/-- `JR C,e8` (R315). -/
def execJrCE8 (e : Byte) (s : State) : Host.Outcome State Fault Refusal := .next (whenCond .c (jumpRelative e) s)

/-- `RET NZ` (R319). -/
def execRetNz (s : State) : Host.Outcome State Fault Refusal := .next (whenCond .nz returnFrom s)

/-- `JP NZ,a16` (R312). -/
def execJpNzA16 (nn : Word) (s : State) : Host.Outcome State Fault Refusal := .next (whenCond .nz (setPc nn) s)

/-- `JP a16` (R311). -/
def execJpA16 (nn : Word) (s : State) : Host.Outcome State Fault Refusal := .next (setPc nn s)

/-- `CALL NZ,a16` (R317). -/
def execCallNzA16 (nn : Word) (s : State) : Host.Outcome State Fault Refusal := .next (whenCond .nz (callTo nn) s)

/-- `RST 0x00` (R325). -/
def execRst00 (s : State) : Host.Outcome State Fault Refusal := .next (callTo (rstTarget .b0) s)

/-- `RET Z` (R319). -/
def execRetZ (s : State) : Host.Outcome State Fault Refusal := .next (whenCond .z returnFrom s)

/-- `RET` (R318). -/
def execRet (s : State) : Host.Outcome State Fault Refusal := .next (returnFrom s)

/-- `JP Z,a16` (R312). -/
def execJpZA16 (nn : Word) (s : State) : Host.Outcome State Fault Refusal := .next (whenCond .z (setPc nn) s)

/-- `CALL Z,a16` (R317). -/
def execCallZA16 (nn : Word) (s : State) : Host.Outcome State Fault Refusal := .next (whenCond .z (callTo nn) s)

/-- `CALL a16` (R316). -/
def execCallA16 (nn : Word) (s : State) : Host.Outcome State Fault Refusal := .next (callTo nn s)

/-- `RST 0x08` (R325). -/
def execRst08 (s : State) : Host.Outcome State Fault Refusal := .next (callTo (rstTarget .b1) s)

/-- `RET NC` (R319). -/
def execRetNc (s : State) : Host.Outcome State Fault Refusal := .next (whenCond .nc returnFrom s)

/-- `JP NC,a16` (R312). -/
def execJpNcA16 (nn : Word) (s : State) : Host.Outcome State Fault Refusal := .next (whenCond .nc (setPc nn) s)

/-- `CALL NC,a16` (R317). -/
def execCallNcA16 (nn : Word) (s : State) : Host.Outcome State Fault Refusal := .next (whenCond .nc (callTo nn) s)

/-- `RST 0x10` (R325). -/
def execRst10 (s : State) : Host.Outcome State Fault Refusal := .next (callTo (rstTarget .b2) s)

/-- `RET C` (R319). -/
def execRetC (s : State) : Host.Outcome State Fault Refusal := .next (whenCond .c returnFrom s)

/-- `RETI` (R322). -/
def execReti (s : State) : Host.Outcome State Fault Refusal := .next (returnFromInterrupt s)

/-- `JP C,a16` (R312). -/
def execJpCA16 (nn : Word) (s : State) : Host.Outcome State Fault Refusal := .next (whenCond .c (setPc nn) s)

/-- `CALL C,a16` (R317). -/
def execCallCA16 (nn : Word) (s : State) : Host.Outcome State Fault Refusal := .next (whenCond .c (callTo nn) s)

/-- `RST 0x18` (R325). -/
def execRst18 (s : State) : Host.Outcome State Fault Refusal := .next (callTo (rstTarget .b3) s)

/-- `RST 0x20` (R325). -/
def execRst20 (s : State) : Host.Outcome State Fault Refusal := .next (callTo (rstTarget .b4) s)

/-- `JP HL` (R313). -/
def execJpHl (s : State) : Host.Outcome State Fault Refusal := .next (setPc s.regs.hl s)

/-- `RST 0x28` (R325). -/
def execRst28 (s : State) : Host.Outcome State Fault Refusal := .next (callTo (rstTarget .b5) s)

/-- `RST 0x30` (R325). -/
def execRst30 (s : State) : Host.Outcome State Fault Refusal := .next (callTo (rstTarget .b6) s)

/-- `RST 0x38` (R325). -/
def execRst38 (s : State) : Host.Outcome State Fault Refusal := .next (callTo (rstTarget .b7) s)

end Sys2Proof.Machine
end

