-- ==== Sys2Proof/Machine/CpuControl.lean ====
section
/-! DEFINITION. The meanings of CPU control (46_cpu_control.md): the effect of each instruction on a state whose
`pc` is already past the instruction's bytes (R12, R26). The clock advance of the step is not part of them. -/

namespace Sys2Proof.Machine

/-- `NOP` (R330). -/
def execNop (s : State) : Host.Outcome State Fault Refusal := .next s

/-- `STOP` (R334). The padding byte is fetched and ignored. -/
def execStop (_pad : Byte) (s : State) : Host.Outcome State Fault Refusal := .next ({ s with cpuState := .stopped })

/-- `HALT` (R332). -/
def execHalt (s : State) : Host.Outcome State Fault Refusal := .next (haltCpu s)

/-- `PREFIX CB` (R338). The byte after the prefix selects the entry of the CB page, executed in the same step. -/
def execPrefixCb (s : State) : Host.Outcome State Fault Refusal :=
  .next (cbPage (busRead s s.regs.pc) (setPc (s.regs.pc + 1) s))

/-- `ILLEGAL` (R340). The machine enters `Faulted` and nothing else changes (R146). DESIGN CHOICE (log 23), where the
opcode was fetched while `halt_bug` was set, so that `pc` stands at the opcode byte and not after it: the info is still
`u16(pc - 1)`, the formula of R145 and R340, one below the opcode's address that R370 names. -/
def execIllegal (op : Byte) (s : State) : Host.Outcome State Fault Refusal :=
  .next (raiseFatal (.illegalOpcode op (s.regs.pc - 1)) s)

/-- `DI` (R336). -/
def execDi (s : State) : Host.Outcome State Fault Refusal := .next ({ s with ime := false, imePending := false })

/-- `EI` (R337). `IME` is set at the end of the next instruction, by the step (R28). -/
def execEi (s : State) : Host.Outcome State Fault Refusal := .next ({ s with imePending := true })

end Sys2Proof.Machine
end

