-- ==== Sys2Proof/Machine/Load16.lean ====
section
/-! DEFINITION. The meanings of the 16-bit loads and stack instructions (41_load16_stack.md): the effect of each
instruction on a state whose `pc` is already past the instruction's bytes (R12, R26). The clock advance of the
step is not part of them. -/

namespace Sys2Proof.Machine

/-- `LD BC,d16` (R221). -/
def execLdBcD16 (nn : Word) (s : State) : Host.Outcome State Fault Refusal := .next (setPair .bc nn s)

/-- `LD (a16),SP` (R222). -/
def execLdAtA16Sp (nn : Word) (s : State) : Host.Outcome State Fault Refusal := .next (busWrite16 nn s.regs.sp s)

/-- `LD DE,d16` (R221). -/
def execLdDeD16 (nn : Word) (s : State) : Host.Outcome State Fault Refusal := .next (setPair .de nn s)

/-- `LD HL,d16` (R221). -/
def execLdHlD16 (nn : Word) (s : State) : Host.Outcome State Fault Refusal := .next (setPair .hl nn s)

/-- `LD SP,d16` (R221). -/
def execLdSpD16 (nn : Word) (s : State) : Host.Outcome State Fault Refusal := .next (setPair .sp nn s)

/-- `POP BC` (R226). -/
def execPopBc (s : State) : Host.Outcome State Fault Refusal := .next (popPair .bc s)

/-- `PUSH BC` (R225). -/
def execPushBc (s : State) : Host.Outcome State Fault Refusal := .next (pushPair .bc s)

/-- `POP DE` (R226). -/
def execPopDe (s : State) : Host.Outcome State Fault Refusal := .next (popPair .de s)

/-- `PUSH DE` (R225). -/
def execPushDe (s : State) : Host.Outcome State Fault Refusal := .next (pushPair .de s)

/-- `POP HL` (R226). -/
def execPopHl (s : State) : Host.Outcome State Fault Refusal := .next (popPair .hl s)

/-- `PUSH HL` (R225). -/
def execPushHl (s : State) : Host.Outcome State Fault Refusal := .next (pushPair .hl s)

/-- `POP AF` (R226). -/
def execPopAf (s : State) : Host.Outcome State Fault Refusal := .next (popPair .af s)

/-- `PUSH AF` (R225). -/
def execPushAf (s : State) : Host.Outcome State Fault Refusal := .next (pushPair .af s)

/-- `LD HL,SP+e8` (R224). -/
def execLdHlSpE8 (e : Byte) (s : State) : Host.Outcome State Fault Refusal := .next (loadHlFromSp e s)

/-- `LD SP,HL` (R223). -/
def execLdSpHl (s : State) : Host.Outcome State Fault Refusal := .next (setSp s.regs.hl s)

end Sys2Proof.Machine
end

