-- ==== Sys2Proof/Machine/Load8.lean ====
section
/-! DEFINITION. The meanings of the 8-bit loads (40_load8.md): the effect of each instruction on a state whose
`pc` is already past the instruction's bytes (R12, R26). The clock advance of the step is not part of them. -/

namespace Sys2Proof.Machine

/-- `LD (BC),A` (R188). -/
def execLdAtBcA (s : State) : Host.Outcome State Fault Refusal := .next (storeAVia .bc s)

/-- `LD B,d8` (R182). -/
def execLdBD8 (n : Byte) (s : State) : Host.Outcome State Fault Refusal := .next (setOperand8 .b n s)

/-- `LD A,(BC)` (R186). -/
def execLdAAtBc (s : State) : Host.Outcome State Fault Refusal := .next (loadAVia .bc s)

/-- `LD C,d8` (R182). -/
def execLdCD8 (n : Byte) (s : State) : Host.Outcome State Fault Refusal := .next (setOperand8 .c n s)

/-- `LD (DE),A` (R189). -/
def execLdAtDeA (s : State) : Host.Outcome State Fault Refusal := .next (storeAVia .de s)

/-- `LD D,d8` (R182). -/
def execLdDD8 (n : Byte) (s : State) : Host.Outcome State Fault Refusal := .next (setOperand8 .d n s)

/-- `LD A,(DE)` (R187). -/
def execLdAAtDe (s : State) : Host.Outcome State Fault Refusal := .next (loadAVia .de s)

/-- `LD E,d8` (R182). -/
def execLdED8 (n : Byte) (s : State) : Host.Outcome State Fault Refusal := .next (setOperand8 .e n s)

/-- `LD (HL+),A` (R196). -/
def execLdAtHlIncA (s : State) : Host.Outcome State Fault Refusal := .next (storeAVia .hlInc s)

/-- `LD H,d8` (R182). -/
def execLdHD8 (n : Byte) (s : State) : Host.Outcome State Fault Refusal := .next (setOperand8 .h n s)

/-- `LD A,(HL+)` (R197). -/
def execLdAAtHlInc (s : State) : Host.Outcome State Fault Refusal := .next (loadAVia .hlInc s)

/-- `LD L,d8` (R182). -/
def execLdLD8 (n : Byte) (s : State) : Host.Outcome State Fault Refusal := .next (setOperand8 .l n s)

/-- `LD (HL-),A` (R198). -/
def execLdAtHlDecA (s : State) : Host.Outcome State Fault Refusal := .next (storeAVia .hlDec s)

/-- `LD (HL),d8` (R185). -/
def execLdAtHlD8 (n : Byte) (s : State) : Host.Outcome State Fault Refusal := .next (setOperand8 .atHl n s)

/-- `LD A,(HL-)` (R199). -/
def execLdAAtHlDec (s : State) : Host.Outcome State Fault Refusal := .next (loadAVia .hlDec s)

/-- `LD A,d8` (R182). -/
def execLdAD8 (n : Byte) (s : State) : Host.Outcome State Fault Refusal := .next (setOperand8 .a n s)

/-- `LD B,B` (R181). -/
def execLdBB (s : State) : Host.Outcome State Fault Refusal := .next (copy8 .b .b s)

/-- `LD B,C` (R181). -/
def execLdBC (s : State) : Host.Outcome State Fault Refusal := .next (copy8 .b .c s)

/-- `LD B,D` (R181). -/
def execLdBD (s : State) : Host.Outcome State Fault Refusal := .next (copy8 .b .d s)

/-- `LD B,E` (R181). -/
def execLdBE (s : State) : Host.Outcome State Fault Refusal := .next (copy8 .b .e s)

/-- `LD B,H` (R181). -/
def execLdBH (s : State) : Host.Outcome State Fault Refusal := .next (copy8 .b .h s)

/-- `LD B,L` (R181). -/
def execLdBL (s : State) : Host.Outcome State Fault Refusal := .next (copy8 .b .l s)

/-- `LD B,(HL)` (R183). -/
def execLdBAtHl (s : State) : Host.Outcome State Fault Refusal := .next (copy8 .b .atHl s)

/-- `LD B,A` (R181). -/
def execLdBA (s : State) : Host.Outcome State Fault Refusal := .next (copy8 .b .a s)

/-- `LD C,B` (R181). -/
def execLdCB (s : State) : Host.Outcome State Fault Refusal := .next (copy8 .c .b s)

/-- `LD C,C` (R181). -/
def execLdCC (s : State) : Host.Outcome State Fault Refusal := .next (copy8 .c .c s)

/-- `LD C,D` (R181). -/
def execLdCD (s : State) : Host.Outcome State Fault Refusal := .next (copy8 .c .d s)

/-- `LD C,E` (R181). -/
def execLdCE (s : State) : Host.Outcome State Fault Refusal := .next (copy8 .c .e s)

/-- `LD C,H` (R181). -/
def execLdCH (s : State) : Host.Outcome State Fault Refusal := .next (copy8 .c .h s)

/-- `LD C,L` (R181). -/
def execLdCL (s : State) : Host.Outcome State Fault Refusal := .next (copy8 .c .l s)

/-- `LD C,(HL)` (R183). -/
def execLdCAtHl (s : State) : Host.Outcome State Fault Refusal := .next (copy8 .c .atHl s)

/-- `LD C,A` (R181). -/
def execLdCA (s : State) : Host.Outcome State Fault Refusal := .next (copy8 .c .a s)

/-- `LD D,B` (R181). -/
def execLdDB (s : State) : Host.Outcome State Fault Refusal := .next (copy8 .d .b s)

/-- `LD D,C` (R181). -/
def execLdDC (s : State) : Host.Outcome State Fault Refusal := .next (copy8 .d .c s)

/-- `LD D,D` (R181). -/
def execLdDD (s : State) : Host.Outcome State Fault Refusal := .next (copy8 .d .d s)

/-- `LD D,E` (R181). -/
def execLdDE (s : State) : Host.Outcome State Fault Refusal := .next (copy8 .d .e s)

/-- `LD D,H` (R181). -/
def execLdDH (s : State) : Host.Outcome State Fault Refusal := .next (copy8 .d .h s)

/-- `LD D,L` (R181). -/
def execLdDL (s : State) : Host.Outcome State Fault Refusal := .next (copy8 .d .l s)

/-- `LD D,(HL)` (R183). -/
def execLdDAtHl (s : State) : Host.Outcome State Fault Refusal := .next (copy8 .d .atHl s)

/-- `LD D,A` (R181). -/
def execLdDA (s : State) : Host.Outcome State Fault Refusal := .next (copy8 .d .a s)

/-- `LD E,B` (R181). -/
def execLdEB (s : State) : Host.Outcome State Fault Refusal := .next (copy8 .e .b s)

/-- `LD E,C` (R181). -/
def execLdEC (s : State) : Host.Outcome State Fault Refusal := .next (copy8 .e .c s)

/-- `LD E,D` (R181). -/
def execLdED (s : State) : Host.Outcome State Fault Refusal := .next (copy8 .e .d s)

/-- `LD E,E` (R181). -/
def execLdEE (s : State) : Host.Outcome State Fault Refusal := .next (copy8 .e .e s)

/-- `LD E,H` (R181). -/
def execLdEH (s : State) : Host.Outcome State Fault Refusal := .next (copy8 .e .h s)

/-- `LD E,L` (R181). -/
def execLdEL (s : State) : Host.Outcome State Fault Refusal := .next (copy8 .e .l s)

/-- `LD E,(HL)` (R183). -/
def execLdEAtHl (s : State) : Host.Outcome State Fault Refusal := .next (copy8 .e .atHl s)

/-- `LD E,A` (R181). -/
def execLdEA (s : State) : Host.Outcome State Fault Refusal := .next (copy8 .e .a s)

/-- `LD H,B` (R181). -/
def execLdHB (s : State) : Host.Outcome State Fault Refusal := .next (copy8 .h .b s)

/-- `LD H,C` (R181). -/
def execLdHC (s : State) : Host.Outcome State Fault Refusal := .next (copy8 .h .c s)

/-- `LD H,D` (R181). -/
def execLdHD (s : State) : Host.Outcome State Fault Refusal := .next (copy8 .h .d s)

/-- `LD H,E` (R181). -/
def execLdHE (s : State) : Host.Outcome State Fault Refusal := .next (copy8 .h .e s)

/-- `LD H,H` (R181). -/
def execLdHH (s : State) : Host.Outcome State Fault Refusal := .next (copy8 .h .h s)

/-- `LD H,L` (R181). -/
def execLdHL (s : State) : Host.Outcome State Fault Refusal := .next (copy8 .h .l s)

/-- `LD H,(HL)` (R183). -/
def execLdHAtHl (s : State) : Host.Outcome State Fault Refusal := .next (copy8 .h .atHl s)

/-- `LD H,A` (R181). -/
def execLdHA (s : State) : Host.Outcome State Fault Refusal := .next (copy8 .h .a s)

/-- `LD L,B` (R181). -/
def execLdLB (s : State) : Host.Outcome State Fault Refusal := .next (copy8 .l .b s)

/-- `LD L,C` (R181). -/
def execLdLC (s : State) : Host.Outcome State Fault Refusal := .next (copy8 .l .c s)

/-- `LD L,D` (R181). -/
def execLdLD (s : State) : Host.Outcome State Fault Refusal := .next (copy8 .l .d s)

/-- `LD L,E` (R181). -/
def execLdLE (s : State) : Host.Outcome State Fault Refusal := .next (copy8 .l .e s)

/-- `LD L,H` (R181). -/
def execLdLH (s : State) : Host.Outcome State Fault Refusal := .next (copy8 .l .h s)

/-- `LD L,L` (R181). -/
def execLdLL (s : State) : Host.Outcome State Fault Refusal := .next (copy8 .l .l s)

/-- `LD L,(HL)` (R183). -/
def execLdLAtHl (s : State) : Host.Outcome State Fault Refusal := .next (copy8 .l .atHl s)

/-- `LD L,A` (R181). -/
def execLdLA (s : State) : Host.Outcome State Fault Refusal := .next (copy8 .l .a s)

/-- `LD (HL),B` (R184). -/
def execLdAtHlB (s : State) : Host.Outcome State Fault Refusal := .next (copy8 .atHl .b s)

/-- `LD (HL),C` (R184). -/
def execLdAtHlC (s : State) : Host.Outcome State Fault Refusal := .next (copy8 .atHl .c s)

/-- `LD (HL),D` (R184). -/
def execLdAtHlD (s : State) : Host.Outcome State Fault Refusal := .next (copy8 .atHl .d s)

/-- `LD (HL),E` (R184). -/
def execLdAtHlE (s : State) : Host.Outcome State Fault Refusal := .next (copy8 .atHl .e s)

/-- `LD (HL),H` (R184). -/
def execLdAtHlH (s : State) : Host.Outcome State Fault Refusal := .next (copy8 .atHl .h s)

/-- `LD (HL),L` (R184). -/
def execLdAtHlL (s : State) : Host.Outcome State Fault Refusal := .next (copy8 .atHl .l s)

/-- `LD (HL),A` (R184). -/
def execLdAtHlA (s : State) : Host.Outcome State Fault Refusal := .next (copy8 .atHl .a s)

/-- `LD A,B` (R181). -/
def execLdAB (s : State) : Host.Outcome State Fault Refusal := .next (copy8 .a .b s)

/-- `LD A,C` (R181). -/
def execLdAC (s : State) : Host.Outcome State Fault Refusal := .next (copy8 .a .c s)

/-- `LD A,D` (R181). -/
def execLdAD (s : State) : Host.Outcome State Fault Refusal := .next (copy8 .a .d s)

/-- `LD A,E` (R181). -/
def execLdAE (s : State) : Host.Outcome State Fault Refusal := .next (copy8 .a .e s)

/-- `LD A,H` (R181). -/
def execLdAH (s : State) : Host.Outcome State Fault Refusal := .next (copy8 .a .h s)

/-- `LD A,L` (R181). -/
def execLdAL (s : State) : Host.Outcome State Fault Refusal := .next (copy8 .a .l s)

/-- `LD A,(HL)` (R183). -/
def execLdAAtHl (s : State) : Host.Outcome State Fault Refusal := .next (copy8 .a .atHl s)

/-- `LD A,A` (R181). -/
def execLdAA (s : State) : Host.Outcome State Fault Refusal := .next (copy8 .a .a s)

/-- `LDH (a8),A` (R193). -/
def execLdhAtA8A (n : Byte) (s : State) : Host.Outcome State Fault Refusal := .next (storeATo (highPage n) s)

/-- `LDH (C),A` (R195). -/
def execLdhAtCA (s : State) : Host.Outcome State Fault Refusal := .next (storeATo (highPage s.regs.c) s)

/-- `LD (a16),A` (R191). -/
def execLdAtA16A (nn : Word) (s : State) : Host.Outcome State Fault Refusal := .next (storeATo nn s)

/-- `LDH A,(a8)` (R192). -/
def execLdhAAtA8 (n : Byte) (s : State) : Host.Outcome State Fault Refusal := .next (loadAFrom (highPage n) s)

/-- `LDH A,(C)` (R194). -/
def execLdhAAtC (s : State) : Host.Outcome State Fault Refusal := .next (loadAFrom (highPage s.regs.c) s)

/-- `LD A,(a16)` (R190). -/
def execLdAAtA16 (nn : Word) (s : State) : Host.Outcome State Fault Refusal := .next (loadAFrom nn s)

end Sys2Proof.Machine
end

