-- ==== Sys2Proof/Machine/RotateShiftBit.lean ====
section
/-! DEFINITION. The meanings of rotates, shifts and bit instructions (44_rotate_shift_bit.md): the effect of
each instruction on a state whose `pc` is already past the instruction's bytes (R12, R26). The clock advance of
the step is not part of them. -/

namespace Sys2Proof.Machine

/-- `RLCA` (R280). -/
def execRlca (s : State) : Host.Outcome State Fault Refusal := .next (modifyA (rotAResult .rlc) s)

/-- `RRCA` (R281). -/
def execRrca (s : State) : Host.Outcome State Fault Refusal := .next (modifyA (rotAResult .rrc) s)

/-- `RLA` (R282). -/
def execRla (s : State) : Host.Outcome State Fault Refusal := .next (modifyA (rotAResult .rl) s)

/-- `RRA` (R283). -/
def execRra (s : State) : Host.Outcome State Fault Refusal := .next (modifyA (rotAResult .rr) s)

/-- `RLC B` (R285). -/
def execRlcB (s : State) : Host.Outcome State Fault Refusal := .next (rotate8 .rlc .b s)

/-- `RLC C` (R285). -/
def execRlcC (s : State) : Host.Outcome State Fault Refusal := .next (rotate8 .rlc .c s)

/-- `RLC D` (R285). -/
def execRlcD (s : State) : Host.Outcome State Fault Refusal := .next (rotate8 .rlc .d s)

/-- `RLC E` (R285). -/
def execRlcE (s : State) : Host.Outcome State Fault Refusal := .next (rotate8 .rlc .e s)

/-- `RLC H` (R285). -/
def execRlcH (s : State) : Host.Outcome State Fault Refusal := .next (rotate8 .rlc .h s)

/-- `RLC L` (R285). -/
def execRlcL (s : State) : Host.Outcome State Fault Refusal := .next (rotate8 .rlc .l s)

/-- `RLC (HL)` (R285). -/
def execRlcAtHl (s : State) : Host.Outcome State Fault Refusal := .next (rotate8 .rlc .atHl s)

/-- `RLC A` (R285). -/
def execRlcA (s : State) : Host.Outcome State Fault Refusal := .next (rotate8 .rlc .a s)

/-- `RRC B` (R286). -/
def execRrcB (s : State) : Host.Outcome State Fault Refusal := .next (rotate8 .rrc .b s)

/-- `RRC C` (R286). -/
def execRrcC (s : State) : Host.Outcome State Fault Refusal := .next (rotate8 .rrc .c s)

/-- `RRC D` (R286). -/
def execRrcD (s : State) : Host.Outcome State Fault Refusal := .next (rotate8 .rrc .d s)

/-- `RRC E` (R286). -/
def execRrcE (s : State) : Host.Outcome State Fault Refusal := .next (rotate8 .rrc .e s)

/-- `RRC H` (R286). -/
def execRrcH (s : State) : Host.Outcome State Fault Refusal := .next (rotate8 .rrc .h s)

/-- `RRC L` (R286). -/
def execRrcL (s : State) : Host.Outcome State Fault Refusal := .next (rotate8 .rrc .l s)

/-- `RRC (HL)` (R286). -/
def execRrcAtHl (s : State) : Host.Outcome State Fault Refusal := .next (rotate8 .rrc .atHl s)

/-- `RRC A` (R286). -/
def execRrcA (s : State) : Host.Outcome State Fault Refusal := .next (rotate8 .rrc .a s)

/-- `RL B` (R287). -/
def execRlB (s : State) : Host.Outcome State Fault Refusal := .next (rotate8 .rl .b s)

/-- `RL C` (R287). -/
def execRlC (s : State) : Host.Outcome State Fault Refusal := .next (rotate8 .rl .c s)

/-- `RL D` (R287). -/
def execRlD (s : State) : Host.Outcome State Fault Refusal := .next (rotate8 .rl .d s)

/-- `RL E` (R287). -/
def execRlE (s : State) : Host.Outcome State Fault Refusal := .next (rotate8 .rl .e s)

/-- `RL H` (R287). -/
def execRlH (s : State) : Host.Outcome State Fault Refusal := .next (rotate8 .rl .h s)

/-- `RL L` (R287). -/
def execRlL (s : State) : Host.Outcome State Fault Refusal := .next (rotate8 .rl .l s)

/-- `RL (HL)` (R287). -/
def execRlAtHl (s : State) : Host.Outcome State Fault Refusal := .next (rotate8 .rl .atHl s)

/-- `RL A` (R287). -/
def execRlA (s : State) : Host.Outcome State Fault Refusal := .next (rotate8 .rl .a s)

/-- `RR B` (R288). -/
def execRrB (s : State) : Host.Outcome State Fault Refusal := .next (rotate8 .rr .b s)

/-- `RR C` (R288). -/
def execRrC (s : State) : Host.Outcome State Fault Refusal := .next (rotate8 .rr .c s)

/-- `RR D` (R288). -/
def execRrD (s : State) : Host.Outcome State Fault Refusal := .next (rotate8 .rr .d s)

/-- `RR E` (R288). -/
def execRrE (s : State) : Host.Outcome State Fault Refusal := .next (rotate8 .rr .e s)

/-- `RR H` (R288). -/
def execRrH (s : State) : Host.Outcome State Fault Refusal := .next (rotate8 .rr .h s)

/-- `RR L` (R288). -/
def execRrL (s : State) : Host.Outcome State Fault Refusal := .next (rotate8 .rr .l s)

/-- `RR (HL)` (R288). -/
def execRrAtHl (s : State) : Host.Outcome State Fault Refusal := .next (rotate8 .rr .atHl s)

/-- `RR A` (R288). -/
def execRrA (s : State) : Host.Outcome State Fault Refusal := .next (rotate8 .rr .a s)

/-- `SLA B` (R289). -/
def execSlaB (s : State) : Host.Outcome State Fault Refusal := .next (rotate8 .sla .b s)

/-- `SLA C` (R289). -/
def execSlaC (s : State) : Host.Outcome State Fault Refusal := .next (rotate8 .sla .c s)

/-- `SLA D` (R289). -/
def execSlaD (s : State) : Host.Outcome State Fault Refusal := .next (rotate8 .sla .d s)

/-- `SLA E` (R289). -/
def execSlaE (s : State) : Host.Outcome State Fault Refusal := .next (rotate8 .sla .e s)

/-- `SLA H` (R289). -/
def execSlaH (s : State) : Host.Outcome State Fault Refusal := .next (rotate8 .sla .h s)

/-- `SLA L` (R289). -/
def execSlaL (s : State) : Host.Outcome State Fault Refusal := .next (rotate8 .sla .l s)

/-- `SLA (HL)` (R289). -/
def execSlaAtHl (s : State) : Host.Outcome State Fault Refusal := .next (rotate8 .sla .atHl s)

/-- `SLA A` (R289). -/
def execSlaA (s : State) : Host.Outcome State Fault Refusal := .next (rotate8 .sla .a s)

/-- `SRA B` (R290). -/
def execSraB (s : State) : Host.Outcome State Fault Refusal := .next (rotate8 .sra .b s)

/-- `SRA C` (R290). -/
def execSraC (s : State) : Host.Outcome State Fault Refusal := .next (rotate8 .sra .c s)

/-- `SRA D` (R290). -/
def execSraD (s : State) : Host.Outcome State Fault Refusal := .next (rotate8 .sra .d s)

/-- `SRA E` (R290). -/
def execSraE (s : State) : Host.Outcome State Fault Refusal := .next (rotate8 .sra .e s)

/-- `SRA H` (R290). -/
def execSraH (s : State) : Host.Outcome State Fault Refusal := .next (rotate8 .sra .h s)

/-- `SRA L` (R290). -/
def execSraL (s : State) : Host.Outcome State Fault Refusal := .next (rotate8 .sra .l s)

/-- `SRA (HL)` (R290). -/
def execSraAtHl (s : State) : Host.Outcome State Fault Refusal := .next (rotate8 .sra .atHl s)

/-- `SRA A` (R290). -/
def execSraA (s : State) : Host.Outcome State Fault Refusal := .next (rotate8 .sra .a s)

/-- `SWAP B` (R291). -/
def execSwapB (s : State) : Host.Outcome State Fault Refusal := .next (rotate8 .swap .b s)

/-- `SWAP C` (R291). -/
def execSwapC (s : State) : Host.Outcome State Fault Refusal := .next (rotate8 .swap .c s)

/-- `SWAP D` (R291). -/
def execSwapD (s : State) : Host.Outcome State Fault Refusal := .next (rotate8 .swap .d s)

/-- `SWAP E` (R291). -/
def execSwapE (s : State) : Host.Outcome State Fault Refusal := .next (rotate8 .swap .e s)

/-- `SWAP H` (R291). -/
def execSwapH (s : State) : Host.Outcome State Fault Refusal := .next (rotate8 .swap .h s)

/-- `SWAP L` (R291). -/
def execSwapL (s : State) : Host.Outcome State Fault Refusal := .next (rotate8 .swap .l s)

/-- `SWAP (HL)` (R291). -/
def execSwapAtHl (s : State) : Host.Outcome State Fault Refusal := .next (rotate8 .swap .atHl s)

/-- `SWAP A` (R291). -/
def execSwapA (s : State) : Host.Outcome State Fault Refusal := .next (rotate8 .swap .a s)

/-- `SRL B` (R292). -/
def execSrlB (s : State) : Host.Outcome State Fault Refusal := .next (rotate8 .srl .b s)

/-- `SRL C` (R292). -/
def execSrlC (s : State) : Host.Outcome State Fault Refusal := .next (rotate8 .srl .c s)

/-- `SRL D` (R292). -/
def execSrlD (s : State) : Host.Outcome State Fault Refusal := .next (rotate8 .srl .d s)

/-- `SRL E` (R292). -/
def execSrlE (s : State) : Host.Outcome State Fault Refusal := .next (rotate8 .srl .e s)

/-- `SRL H` (R292). -/
def execSrlH (s : State) : Host.Outcome State Fault Refusal := .next (rotate8 .srl .h s)

/-- `SRL L` (R292). -/
def execSrlL (s : State) : Host.Outcome State Fault Refusal := .next (rotate8 .srl .l s)

/-- `SRL (HL)` (R292). -/
def execSrlAtHl (s : State) : Host.Outcome State Fault Refusal := .next (rotate8 .srl .atHl s)

/-- `SRL A` (R292). -/
def execSrlA (s : State) : Host.Outcome State Fault Refusal := .next (rotate8 .srl .a s)

/-- `BIT 0,B` (R293). -/
def execBit0B (s : State) : Host.Outcome State Fault Refusal := .next (testBit8 .b0 .b s)

/-- `BIT 0,C` (R293). -/
def execBit0C (s : State) : Host.Outcome State Fault Refusal := .next (testBit8 .b0 .c s)

/-- `BIT 0,D` (R293). -/
def execBit0D (s : State) : Host.Outcome State Fault Refusal := .next (testBit8 .b0 .d s)

/-- `BIT 0,E` (R293). -/
def execBit0E (s : State) : Host.Outcome State Fault Refusal := .next (testBit8 .b0 .e s)

/-- `BIT 0,H` (R293). -/
def execBit0H (s : State) : Host.Outcome State Fault Refusal := .next (testBit8 .b0 .h s)

/-- `BIT 0,L` (R293). -/
def execBit0L (s : State) : Host.Outcome State Fault Refusal := .next (testBit8 .b0 .l s)

/-- `BIT 0,(HL)` (R293). -/
def execBit0AtHl (s : State) : Host.Outcome State Fault Refusal := .next (testBit8 .b0 .atHl s)

/-- `BIT 0,A` (R293). -/
def execBit0A (s : State) : Host.Outcome State Fault Refusal := .next (testBit8 .b0 .a s)

/-- `BIT 1,B` (R293). -/
def execBit1B (s : State) : Host.Outcome State Fault Refusal := .next (testBit8 .b1 .b s)

/-- `BIT 1,C` (R293). -/
def execBit1C (s : State) : Host.Outcome State Fault Refusal := .next (testBit8 .b1 .c s)

/-- `BIT 1,D` (R293). -/
def execBit1D (s : State) : Host.Outcome State Fault Refusal := .next (testBit8 .b1 .d s)

/-- `BIT 1,E` (R293). -/
def execBit1E (s : State) : Host.Outcome State Fault Refusal := .next (testBit8 .b1 .e s)

/-- `BIT 1,H` (R293). -/
def execBit1H (s : State) : Host.Outcome State Fault Refusal := .next (testBit8 .b1 .h s)

/-- `BIT 1,L` (R293). -/
def execBit1L (s : State) : Host.Outcome State Fault Refusal := .next (testBit8 .b1 .l s)

/-- `BIT 1,(HL)` (R293). -/
def execBit1AtHl (s : State) : Host.Outcome State Fault Refusal := .next (testBit8 .b1 .atHl s)

/-- `BIT 1,A` (R293). -/
def execBit1A (s : State) : Host.Outcome State Fault Refusal := .next (testBit8 .b1 .a s)

/-- `BIT 2,B` (R293). -/
def execBit2B (s : State) : Host.Outcome State Fault Refusal := .next (testBit8 .b2 .b s)

/-- `BIT 2,C` (R293). -/
def execBit2C (s : State) : Host.Outcome State Fault Refusal := .next (testBit8 .b2 .c s)

/-- `BIT 2,D` (R293). -/
def execBit2D (s : State) : Host.Outcome State Fault Refusal := .next (testBit8 .b2 .d s)

/-- `BIT 2,E` (R293). -/
def execBit2E (s : State) : Host.Outcome State Fault Refusal := .next (testBit8 .b2 .e s)

/-- `BIT 2,H` (R293). -/
def execBit2H (s : State) : Host.Outcome State Fault Refusal := .next (testBit8 .b2 .h s)

/-- `BIT 2,L` (R293). -/
def execBit2L (s : State) : Host.Outcome State Fault Refusal := .next (testBit8 .b2 .l s)

/-- `BIT 2,(HL)` (R293). -/
def execBit2AtHl (s : State) : Host.Outcome State Fault Refusal := .next (testBit8 .b2 .atHl s)

/-- `BIT 2,A` (R293). -/
def execBit2A (s : State) : Host.Outcome State Fault Refusal := .next (testBit8 .b2 .a s)

/-- `BIT 3,B` (R293). -/
def execBit3B (s : State) : Host.Outcome State Fault Refusal := .next (testBit8 .b3 .b s)

/-- `BIT 3,C` (R293). -/
def execBit3C (s : State) : Host.Outcome State Fault Refusal := .next (testBit8 .b3 .c s)

/-- `BIT 3,D` (R293). -/
def execBit3D (s : State) : Host.Outcome State Fault Refusal := .next (testBit8 .b3 .d s)

/-- `BIT 3,E` (R293). -/
def execBit3E (s : State) : Host.Outcome State Fault Refusal := .next (testBit8 .b3 .e s)

/-- `BIT 3,H` (R293). -/
def execBit3H (s : State) : Host.Outcome State Fault Refusal := .next (testBit8 .b3 .h s)

/-- `BIT 3,L` (R293). -/
def execBit3L (s : State) : Host.Outcome State Fault Refusal := .next (testBit8 .b3 .l s)

/-- `BIT 3,(HL)` (R293). -/
def execBit3AtHl (s : State) : Host.Outcome State Fault Refusal := .next (testBit8 .b3 .atHl s)

/-- `BIT 3,A` (R293). -/
def execBit3A (s : State) : Host.Outcome State Fault Refusal := .next (testBit8 .b3 .a s)

/-- `BIT 4,B` (R293). -/
def execBit4B (s : State) : Host.Outcome State Fault Refusal := .next (testBit8 .b4 .b s)

/-- `BIT 4,C` (R293). -/
def execBit4C (s : State) : Host.Outcome State Fault Refusal := .next (testBit8 .b4 .c s)

/-- `BIT 4,D` (R293). -/
def execBit4D (s : State) : Host.Outcome State Fault Refusal := .next (testBit8 .b4 .d s)

/-- `BIT 4,E` (R293). -/
def execBit4E (s : State) : Host.Outcome State Fault Refusal := .next (testBit8 .b4 .e s)

/-- `BIT 4,H` (R293). -/
def execBit4H (s : State) : Host.Outcome State Fault Refusal := .next (testBit8 .b4 .h s)

/-- `BIT 4,L` (R293). -/
def execBit4L (s : State) : Host.Outcome State Fault Refusal := .next (testBit8 .b4 .l s)

/-- `BIT 4,(HL)` (R293). -/
def execBit4AtHl (s : State) : Host.Outcome State Fault Refusal := .next (testBit8 .b4 .atHl s)

/-- `BIT 4,A` (R293). -/
def execBit4A (s : State) : Host.Outcome State Fault Refusal := .next (testBit8 .b4 .a s)

/-- `BIT 5,B` (R293). -/
def execBit5B (s : State) : Host.Outcome State Fault Refusal := .next (testBit8 .b5 .b s)

/-- `BIT 5,C` (R293). -/
def execBit5C (s : State) : Host.Outcome State Fault Refusal := .next (testBit8 .b5 .c s)

/-- `BIT 5,D` (R293). -/
def execBit5D (s : State) : Host.Outcome State Fault Refusal := .next (testBit8 .b5 .d s)

/-- `BIT 5,E` (R293). -/
def execBit5E (s : State) : Host.Outcome State Fault Refusal := .next (testBit8 .b5 .e s)

/-- `BIT 5,H` (R293). -/
def execBit5H (s : State) : Host.Outcome State Fault Refusal := .next (testBit8 .b5 .h s)

/-- `BIT 5,L` (R293). -/
def execBit5L (s : State) : Host.Outcome State Fault Refusal := .next (testBit8 .b5 .l s)

/-- `BIT 5,(HL)` (R293). -/
def execBit5AtHl (s : State) : Host.Outcome State Fault Refusal := .next (testBit8 .b5 .atHl s)

/-- `BIT 5,A` (R293). -/
def execBit5A (s : State) : Host.Outcome State Fault Refusal := .next (testBit8 .b5 .a s)

/-- `BIT 6,B` (R293). -/
def execBit6B (s : State) : Host.Outcome State Fault Refusal := .next (testBit8 .b6 .b s)

/-- `BIT 6,C` (R293). -/
def execBit6C (s : State) : Host.Outcome State Fault Refusal := .next (testBit8 .b6 .c s)

/-- `BIT 6,D` (R293). -/
def execBit6D (s : State) : Host.Outcome State Fault Refusal := .next (testBit8 .b6 .d s)

/-- `BIT 6,E` (R293). -/
def execBit6E (s : State) : Host.Outcome State Fault Refusal := .next (testBit8 .b6 .e s)

/-- `BIT 6,H` (R293). -/
def execBit6H (s : State) : Host.Outcome State Fault Refusal := .next (testBit8 .b6 .h s)

/-- `BIT 6,L` (R293). -/
def execBit6L (s : State) : Host.Outcome State Fault Refusal := .next (testBit8 .b6 .l s)

/-- `BIT 6,(HL)` (R293). -/
def execBit6AtHl (s : State) : Host.Outcome State Fault Refusal := .next (testBit8 .b6 .atHl s)

/-- `BIT 6,A` (R293). -/
def execBit6A (s : State) : Host.Outcome State Fault Refusal := .next (testBit8 .b6 .a s)

/-- `BIT 7,B` (R293). -/
def execBit7B (s : State) : Host.Outcome State Fault Refusal := .next (testBit8 .b7 .b s)

/-- `BIT 7,C` (R293). -/
def execBit7C (s : State) : Host.Outcome State Fault Refusal := .next (testBit8 .b7 .c s)

/-- `BIT 7,D` (R293). -/
def execBit7D (s : State) : Host.Outcome State Fault Refusal := .next (testBit8 .b7 .d s)

/-- `BIT 7,E` (R293). -/
def execBit7E (s : State) : Host.Outcome State Fault Refusal := .next (testBit8 .b7 .e s)

/-- `BIT 7,H` (R293). -/
def execBit7H (s : State) : Host.Outcome State Fault Refusal := .next (testBit8 .b7 .h s)

/-- `BIT 7,L` (R293). -/
def execBit7L (s : State) : Host.Outcome State Fault Refusal := .next (testBit8 .b7 .l s)

/-- `BIT 7,(HL)` (R293). -/
def execBit7AtHl (s : State) : Host.Outcome State Fault Refusal := .next (testBit8 .b7 .atHl s)

/-- `BIT 7,A` (R293). -/
def execBit7A (s : State) : Host.Outcome State Fault Refusal := .next (testBit8 .b7 .a s)

/-- `RES 0,B` (R294). -/
def execRes0B (s : State) : Host.Outcome State Fault Refusal := .next (clearBit8 .b0 .b s)

/-- `RES 0,C` (R294). -/
def execRes0C (s : State) : Host.Outcome State Fault Refusal := .next (clearBit8 .b0 .c s)

/-- `RES 0,D` (R294). -/
def execRes0D (s : State) : Host.Outcome State Fault Refusal := .next (clearBit8 .b0 .d s)

/-- `RES 0,E` (R294). -/
def execRes0E (s : State) : Host.Outcome State Fault Refusal := .next (clearBit8 .b0 .e s)

/-- `RES 0,H` (R294). -/
def execRes0H (s : State) : Host.Outcome State Fault Refusal := .next (clearBit8 .b0 .h s)

/-- `RES 0,L` (R294). -/
def execRes0L (s : State) : Host.Outcome State Fault Refusal := .next (clearBit8 .b0 .l s)

/-- `RES 0,(HL)` (R294). -/
def execRes0AtHl (s : State) : Host.Outcome State Fault Refusal := .next (clearBit8 .b0 .atHl s)

/-- `RES 0,A` (R294). -/
def execRes0A (s : State) : Host.Outcome State Fault Refusal := .next (clearBit8 .b0 .a s)

/-- `RES 1,B` (R294). -/
def execRes1B (s : State) : Host.Outcome State Fault Refusal := .next (clearBit8 .b1 .b s)

/-- `RES 1,C` (R294). -/
def execRes1C (s : State) : Host.Outcome State Fault Refusal := .next (clearBit8 .b1 .c s)

/-- `RES 1,D` (R294). -/
def execRes1D (s : State) : Host.Outcome State Fault Refusal := .next (clearBit8 .b1 .d s)

/-- `RES 1,E` (R294). -/
def execRes1E (s : State) : Host.Outcome State Fault Refusal := .next (clearBit8 .b1 .e s)

/-- `RES 1,H` (R294). -/
def execRes1H (s : State) : Host.Outcome State Fault Refusal := .next (clearBit8 .b1 .h s)

/-- `RES 1,L` (R294). -/
def execRes1L (s : State) : Host.Outcome State Fault Refusal := .next (clearBit8 .b1 .l s)

/-- `RES 1,(HL)` (R294). -/
def execRes1AtHl (s : State) : Host.Outcome State Fault Refusal := .next (clearBit8 .b1 .atHl s)

/-- `RES 1,A` (R294). -/
def execRes1A (s : State) : Host.Outcome State Fault Refusal := .next (clearBit8 .b1 .a s)

/-- `RES 2,B` (R294). -/
def execRes2B (s : State) : Host.Outcome State Fault Refusal := .next (clearBit8 .b2 .b s)

/-- `RES 2,C` (R294). -/
def execRes2C (s : State) : Host.Outcome State Fault Refusal := .next (clearBit8 .b2 .c s)

/-- `RES 2,D` (R294). -/
def execRes2D (s : State) : Host.Outcome State Fault Refusal := .next (clearBit8 .b2 .d s)

/-- `RES 2,E` (R294). -/
def execRes2E (s : State) : Host.Outcome State Fault Refusal := .next (clearBit8 .b2 .e s)

/-- `RES 2,H` (R294). -/
def execRes2H (s : State) : Host.Outcome State Fault Refusal := .next (clearBit8 .b2 .h s)

/-- `RES 2,L` (R294). -/
def execRes2L (s : State) : Host.Outcome State Fault Refusal := .next (clearBit8 .b2 .l s)

/-- `RES 2,(HL)` (R294). -/
def execRes2AtHl (s : State) : Host.Outcome State Fault Refusal := .next (clearBit8 .b2 .atHl s)

/-- `RES 2,A` (R294). -/
def execRes2A (s : State) : Host.Outcome State Fault Refusal := .next (clearBit8 .b2 .a s)

/-- `RES 3,B` (R294). -/
def execRes3B (s : State) : Host.Outcome State Fault Refusal := .next (clearBit8 .b3 .b s)

/-- `RES 3,C` (R294). -/
def execRes3C (s : State) : Host.Outcome State Fault Refusal := .next (clearBit8 .b3 .c s)

/-- `RES 3,D` (R294). -/
def execRes3D (s : State) : Host.Outcome State Fault Refusal := .next (clearBit8 .b3 .d s)

/-- `RES 3,E` (R294). -/
def execRes3E (s : State) : Host.Outcome State Fault Refusal := .next (clearBit8 .b3 .e s)

/-- `RES 3,H` (R294). -/
def execRes3H (s : State) : Host.Outcome State Fault Refusal := .next (clearBit8 .b3 .h s)

/-- `RES 3,L` (R294). -/
def execRes3L (s : State) : Host.Outcome State Fault Refusal := .next (clearBit8 .b3 .l s)

/-- `RES 3,(HL)` (R294). -/
def execRes3AtHl (s : State) : Host.Outcome State Fault Refusal := .next (clearBit8 .b3 .atHl s)

/-- `RES 3,A` (R294). -/
def execRes3A (s : State) : Host.Outcome State Fault Refusal := .next (clearBit8 .b3 .a s)

/-- `RES 4,B` (R294). -/
def execRes4B (s : State) : Host.Outcome State Fault Refusal := .next (clearBit8 .b4 .b s)

/-- `RES 4,C` (R294). -/
def execRes4C (s : State) : Host.Outcome State Fault Refusal := .next (clearBit8 .b4 .c s)

/-- `RES 4,D` (R294). -/
def execRes4D (s : State) : Host.Outcome State Fault Refusal := .next (clearBit8 .b4 .d s)

/-- `RES 4,E` (R294). -/
def execRes4E (s : State) : Host.Outcome State Fault Refusal := .next (clearBit8 .b4 .e s)

/-- `RES 4,H` (R294). -/
def execRes4H (s : State) : Host.Outcome State Fault Refusal := .next (clearBit8 .b4 .h s)

/-- `RES 4,L` (R294). -/
def execRes4L (s : State) : Host.Outcome State Fault Refusal := .next (clearBit8 .b4 .l s)

/-- `RES 4,(HL)` (R294). -/
def execRes4AtHl (s : State) : Host.Outcome State Fault Refusal := .next (clearBit8 .b4 .atHl s)

/-- `RES 4,A` (R294). -/
def execRes4A (s : State) : Host.Outcome State Fault Refusal := .next (clearBit8 .b4 .a s)

/-- `RES 5,B` (R294). -/
def execRes5B (s : State) : Host.Outcome State Fault Refusal := .next (clearBit8 .b5 .b s)

/-- `RES 5,C` (R294). -/
def execRes5C (s : State) : Host.Outcome State Fault Refusal := .next (clearBit8 .b5 .c s)

/-- `RES 5,D` (R294). -/
def execRes5D (s : State) : Host.Outcome State Fault Refusal := .next (clearBit8 .b5 .d s)

/-- `RES 5,E` (R294). -/
def execRes5E (s : State) : Host.Outcome State Fault Refusal := .next (clearBit8 .b5 .e s)

/-- `RES 5,H` (R294). -/
def execRes5H (s : State) : Host.Outcome State Fault Refusal := .next (clearBit8 .b5 .h s)

/-- `RES 5,L` (R294). -/
def execRes5L (s : State) : Host.Outcome State Fault Refusal := .next (clearBit8 .b5 .l s)

/-- `RES 5,(HL)` (R294). -/
def execRes5AtHl (s : State) : Host.Outcome State Fault Refusal := .next (clearBit8 .b5 .atHl s)

/-- `RES 5,A` (R294). -/
def execRes5A (s : State) : Host.Outcome State Fault Refusal := .next (clearBit8 .b5 .a s)

/-- `RES 6,B` (R294). -/
def execRes6B (s : State) : Host.Outcome State Fault Refusal := .next (clearBit8 .b6 .b s)

/-- `RES 6,C` (R294). -/
def execRes6C (s : State) : Host.Outcome State Fault Refusal := .next (clearBit8 .b6 .c s)

/-- `RES 6,D` (R294). -/
def execRes6D (s : State) : Host.Outcome State Fault Refusal := .next (clearBit8 .b6 .d s)

/-- `RES 6,E` (R294). -/
def execRes6E (s : State) : Host.Outcome State Fault Refusal := .next (clearBit8 .b6 .e s)

/-- `RES 6,H` (R294). -/
def execRes6H (s : State) : Host.Outcome State Fault Refusal := .next (clearBit8 .b6 .h s)

/-- `RES 6,L` (R294). -/
def execRes6L (s : State) : Host.Outcome State Fault Refusal := .next (clearBit8 .b6 .l s)

/-- `RES 6,(HL)` (R294). -/
def execRes6AtHl (s : State) : Host.Outcome State Fault Refusal := .next (clearBit8 .b6 .atHl s)

/-- `RES 6,A` (R294). -/
def execRes6A (s : State) : Host.Outcome State Fault Refusal := .next (clearBit8 .b6 .a s)

/-- `RES 7,B` (R294). -/
def execRes7B (s : State) : Host.Outcome State Fault Refusal := .next (clearBit8 .b7 .b s)

/-- `RES 7,C` (R294). -/
def execRes7C (s : State) : Host.Outcome State Fault Refusal := .next (clearBit8 .b7 .c s)

/-- `RES 7,D` (R294). -/
def execRes7D (s : State) : Host.Outcome State Fault Refusal := .next (clearBit8 .b7 .d s)

/-- `RES 7,E` (R294). -/
def execRes7E (s : State) : Host.Outcome State Fault Refusal := .next (clearBit8 .b7 .e s)

/-- `RES 7,H` (R294). -/
def execRes7H (s : State) : Host.Outcome State Fault Refusal := .next (clearBit8 .b7 .h s)

/-- `RES 7,L` (R294). -/
def execRes7L (s : State) : Host.Outcome State Fault Refusal := .next (clearBit8 .b7 .l s)

/-- `RES 7,(HL)` (R294). -/
def execRes7AtHl (s : State) : Host.Outcome State Fault Refusal := .next (clearBit8 .b7 .atHl s)

/-- `RES 7,A` (R294). -/
def execRes7A (s : State) : Host.Outcome State Fault Refusal := .next (clearBit8 .b7 .a s)

/-- `SET 0,B` (R295). -/
def execSet0B (s : State) : Host.Outcome State Fault Refusal := .next (setBit8 .b0 .b s)

/-- `SET 0,C` (R295). -/
def execSet0C (s : State) : Host.Outcome State Fault Refusal := .next (setBit8 .b0 .c s)

/-- `SET 0,D` (R295). -/
def execSet0D (s : State) : Host.Outcome State Fault Refusal := .next (setBit8 .b0 .d s)

/-- `SET 0,E` (R295). -/
def execSet0E (s : State) : Host.Outcome State Fault Refusal := .next (setBit8 .b0 .e s)

/-- `SET 0,H` (R295). -/
def execSet0H (s : State) : Host.Outcome State Fault Refusal := .next (setBit8 .b0 .h s)

/-- `SET 0,L` (R295). -/
def execSet0L (s : State) : Host.Outcome State Fault Refusal := .next (setBit8 .b0 .l s)

/-- `SET 0,(HL)` (R295). -/
def execSet0AtHl (s : State) : Host.Outcome State Fault Refusal := .next (setBit8 .b0 .atHl s)

/-- `SET 0,A` (R295). -/
def execSet0A (s : State) : Host.Outcome State Fault Refusal := .next (setBit8 .b0 .a s)

/-- `SET 1,B` (R295). -/
def execSet1B (s : State) : Host.Outcome State Fault Refusal := .next (setBit8 .b1 .b s)

/-- `SET 1,C` (R295). -/
def execSet1C (s : State) : Host.Outcome State Fault Refusal := .next (setBit8 .b1 .c s)

/-- `SET 1,D` (R295). -/
def execSet1D (s : State) : Host.Outcome State Fault Refusal := .next (setBit8 .b1 .d s)

/-- `SET 1,E` (R295). -/
def execSet1E (s : State) : Host.Outcome State Fault Refusal := .next (setBit8 .b1 .e s)

/-- `SET 1,H` (R295). -/
def execSet1H (s : State) : Host.Outcome State Fault Refusal := .next (setBit8 .b1 .h s)

/-- `SET 1,L` (R295). -/
def execSet1L (s : State) : Host.Outcome State Fault Refusal := .next (setBit8 .b1 .l s)

/-- `SET 1,(HL)` (R295). -/
def execSet1AtHl (s : State) : Host.Outcome State Fault Refusal := .next (setBit8 .b1 .atHl s)

/-- `SET 1,A` (R295). -/
def execSet1A (s : State) : Host.Outcome State Fault Refusal := .next (setBit8 .b1 .a s)

/-- `SET 2,B` (R295). -/
def execSet2B (s : State) : Host.Outcome State Fault Refusal := .next (setBit8 .b2 .b s)

/-- `SET 2,C` (R295). -/
def execSet2C (s : State) : Host.Outcome State Fault Refusal := .next (setBit8 .b2 .c s)

/-- `SET 2,D` (R295). -/
def execSet2D (s : State) : Host.Outcome State Fault Refusal := .next (setBit8 .b2 .d s)

/-- `SET 2,E` (R295). -/
def execSet2E (s : State) : Host.Outcome State Fault Refusal := .next (setBit8 .b2 .e s)

/-- `SET 2,H` (R295). -/
def execSet2H (s : State) : Host.Outcome State Fault Refusal := .next (setBit8 .b2 .h s)

/-- `SET 2,L` (R295). -/
def execSet2L (s : State) : Host.Outcome State Fault Refusal := .next (setBit8 .b2 .l s)

/-- `SET 2,(HL)` (R295). -/
def execSet2AtHl (s : State) : Host.Outcome State Fault Refusal := .next (setBit8 .b2 .atHl s)

/-- `SET 2,A` (R295). -/
def execSet2A (s : State) : Host.Outcome State Fault Refusal := .next (setBit8 .b2 .a s)

/-- `SET 3,B` (R295). -/
def execSet3B (s : State) : Host.Outcome State Fault Refusal := .next (setBit8 .b3 .b s)

/-- `SET 3,C` (R295). -/
def execSet3C (s : State) : Host.Outcome State Fault Refusal := .next (setBit8 .b3 .c s)

/-- `SET 3,D` (R295). -/
def execSet3D (s : State) : Host.Outcome State Fault Refusal := .next (setBit8 .b3 .d s)

/-- `SET 3,E` (R295). -/
def execSet3E (s : State) : Host.Outcome State Fault Refusal := .next (setBit8 .b3 .e s)

/-- `SET 3,H` (R295). -/
def execSet3H (s : State) : Host.Outcome State Fault Refusal := .next (setBit8 .b3 .h s)

/-- `SET 3,L` (R295). -/
def execSet3L (s : State) : Host.Outcome State Fault Refusal := .next (setBit8 .b3 .l s)

/-- `SET 3,(HL)` (R295). -/
def execSet3AtHl (s : State) : Host.Outcome State Fault Refusal := .next (setBit8 .b3 .atHl s)

/-- `SET 3,A` (R295). -/
def execSet3A (s : State) : Host.Outcome State Fault Refusal := .next (setBit8 .b3 .a s)

/-- `SET 4,B` (R295). -/
def execSet4B (s : State) : Host.Outcome State Fault Refusal := .next (setBit8 .b4 .b s)

/-- `SET 4,C` (R295). -/
def execSet4C (s : State) : Host.Outcome State Fault Refusal := .next (setBit8 .b4 .c s)

/-- `SET 4,D` (R295). -/
def execSet4D (s : State) : Host.Outcome State Fault Refusal := .next (setBit8 .b4 .d s)

/-- `SET 4,E` (R295). -/
def execSet4E (s : State) : Host.Outcome State Fault Refusal := .next (setBit8 .b4 .e s)

/-- `SET 4,H` (R295). -/
def execSet4H (s : State) : Host.Outcome State Fault Refusal := .next (setBit8 .b4 .h s)

/-- `SET 4,L` (R295). -/
def execSet4L (s : State) : Host.Outcome State Fault Refusal := .next (setBit8 .b4 .l s)

/-- `SET 4,(HL)` (R295). -/
def execSet4AtHl (s : State) : Host.Outcome State Fault Refusal := .next (setBit8 .b4 .atHl s)

/-- `SET 4,A` (R295). -/
def execSet4A (s : State) : Host.Outcome State Fault Refusal := .next (setBit8 .b4 .a s)

/-- `SET 5,B` (R295). -/
def execSet5B (s : State) : Host.Outcome State Fault Refusal := .next (setBit8 .b5 .b s)

/-- `SET 5,C` (R295). -/
def execSet5C (s : State) : Host.Outcome State Fault Refusal := .next (setBit8 .b5 .c s)

/-- `SET 5,D` (R295). -/
def execSet5D (s : State) : Host.Outcome State Fault Refusal := .next (setBit8 .b5 .d s)

/-- `SET 5,E` (R295). -/
def execSet5E (s : State) : Host.Outcome State Fault Refusal := .next (setBit8 .b5 .e s)

/-- `SET 5,H` (R295). -/
def execSet5H (s : State) : Host.Outcome State Fault Refusal := .next (setBit8 .b5 .h s)

/-- `SET 5,L` (R295). -/
def execSet5L (s : State) : Host.Outcome State Fault Refusal := .next (setBit8 .b5 .l s)

/-- `SET 5,(HL)` (R295). -/
def execSet5AtHl (s : State) : Host.Outcome State Fault Refusal := .next (setBit8 .b5 .atHl s)

/-- `SET 5,A` (R295). -/
def execSet5A (s : State) : Host.Outcome State Fault Refusal := .next (setBit8 .b5 .a s)

/-- `SET 6,B` (R295). -/
def execSet6B (s : State) : Host.Outcome State Fault Refusal := .next (setBit8 .b6 .b s)

/-- `SET 6,C` (R295). -/
def execSet6C (s : State) : Host.Outcome State Fault Refusal := .next (setBit8 .b6 .c s)

/-- `SET 6,D` (R295). -/
def execSet6D (s : State) : Host.Outcome State Fault Refusal := .next (setBit8 .b6 .d s)

/-- `SET 6,E` (R295). -/
def execSet6E (s : State) : Host.Outcome State Fault Refusal := .next (setBit8 .b6 .e s)

/-- `SET 6,H` (R295). -/
def execSet6H (s : State) : Host.Outcome State Fault Refusal := .next (setBit8 .b6 .h s)

/-- `SET 6,L` (R295). -/
def execSet6L (s : State) : Host.Outcome State Fault Refusal := .next (setBit8 .b6 .l s)

/-- `SET 6,(HL)` (R295). -/
def execSet6AtHl (s : State) : Host.Outcome State Fault Refusal := .next (setBit8 .b6 .atHl s)

/-- `SET 6,A` (R295). -/
def execSet6A (s : State) : Host.Outcome State Fault Refusal := .next (setBit8 .b6 .a s)

/-- `SET 7,B` (R295). -/
def execSet7B (s : State) : Host.Outcome State Fault Refusal := .next (setBit8 .b7 .b s)

/-- `SET 7,C` (R295). -/
def execSet7C (s : State) : Host.Outcome State Fault Refusal := .next (setBit8 .b7 .c s)

/-- `SET 7,D` (R295). -/
def execSet7D (s : State) : Host.Outcome State Fault Refusal := .next (setBit8 .b7 .d s)

/-- `SET 7,E` (R295). -/
def execSet7E (s : State) : Host.Outcome State Fault Refusal := .next (setBit8 .b7 .e s)

/-- `SET 7,H` (R295). -/
def execSet7H (s : State) : Host.Outcome State Fault Refusal := .next (setBit8 .b7 .h s)

/-- `SET 7,L` (R295). -/
def execSet7L (s : State) : Host.Outcome State Fault Refusal := .next (setBit8 .b7 .l s)

/-- `SET 7,(HL)` (R295). -/
def execSet7AtHl (s : State) : Host.Outcome State Fault Refusal := .next (setBit8 .b7 .atHl s)

/-- `SET 7,A` (R295). -/
def execSet7A (s : State) : Host.Outcome State Fault Refusal := .next (setBit8 .b7 .a s)

end Sys2Proof.Machine
end

