-- ==== Sys2Proof/Machine/Cycle.lean ====
section
/-! DEFINITION. The parts of a step (R352): the host's input before it, the wake-up check, the clock advance, the end of
an instruction, and the placing of an instruction where the next step fetches. -/

namespace Sys2Proof.Machine

/-! ## The clock (R362) -/

/-- One machine cycle: the clock, the timer, the PPU, the APU (R362). -/
def machineCycle (s : State) : State := apuStep (ppuStep (timerStep { s with cpuClock := s.cpuClock + 4 }))

/-- `AdvanceClock`, by a number of machine cycles (R362). -/
def advanceClock (n : Nat) (s : State) : State := iterate machineCycle n s

/-- The cost of an interrupt entry: 20 clock cycles (R356). -/
def interruptCost : Nat := 5

/-- The cost of an idle step: 4 clock cycles (R352). -/
def idleCost : Nat := 1

/-! ## Before the instruction -/

/-- The host's changes of the joypad lines at this step boundary (R380, log 12). -/
def takeHostInput (s : State) : State :=
  match s.hostInputs with
  | [] => s
  | events :: later => events.foldl hostPress { s with hostInputs := later }

/-- `STOP_WAKE(state)` (R334). -/
def stopWakes (s : State) : Bool :=
  match s.params.stopWake with
  | .never => false
  | .joypadLine => decide (joypLines s.joypSelect s.buttons ≠ 0xF)
  | .other => Config.stopWake s

/-- The wake-up check (R352, R354). -/
def wake (s : State) : State :=
  match s.cpuState with
  | .stopped => if stopWakes s then { s with cpuState := .running } else s
  | .halted => if pendingSources s ≠ 0 then { s with cpuState := .running } else s
  | _ => s

/-- An interrupt is due: `IME` set and an enabled source pending (R352). -/
def interruptDue (s : State) : Bool := s.ime && decide (pendingSources s ≠ 0)

/-! ## Around the instruction -/

/-- The end of the delay of EI (R28): `wasPending` is `ime_pending` at the start of the step. -/
def endEiDelay (wasPending : Bool) (s : State) : State :=
  if wasPending && s.imePending then { s with ime := true, imePending := false } else s

/-- What follows an instruction's effect: the EI delay and the clock advance; nothing after a fatal fault (R352). -/
def endInstruction (wasPending : Bool) (cost : Nat) (s : State) : State :=
  match s.cpuState with
  | .faulted _ => s
  | _ => advanceClock cost (endEiDelay wasPending s)

/-- A step's instruction: fetched, executed, and followed by the clock advance (R352). -/
def runInstr (i : Instr) (s : State) : Host.Outcome State Fault Refusal :=
  match exec i (afterFetch i s) with
  | .next t => .next (endInstruction s.imePending (instrCost i (afterFetch i s)) t)
  | .fault r => .fault r
  | .refused r => .refused r

/-- The third part of a step: an interrupt entry, an instruction, or an idle machine cycle (R352). -/
def runCpu (s : State) : Host.Outcome State Fault Refusal :=
  match s.cpuState with
  | .running =>
    if interruptDue s then .next (advanceClock interruptCost (interruptEntry (lowestSource (pendingSources s)) s))
    else runInstr (fetchInstr s) s
  | _ => .next (advanceClock idleCost s)

/-- A step of a machine that has not faulted (R352). -/
def runStep (s : State) : Host.Outcome State Fault Refusal :=
  let t := runDma (takeHostInput s)
  match t.cpuState with
  | .faulted _ => .next t
  | _ => runCpu (wake t)

/-! ## Placing an instruction (log 17) -/

/-- An address whose byte can be placed in a memory that a fetch reads without a gate. -/
def isPlainCode (s : State) (a : Word) : Bool :=
  match regionOf s.bootEnabled a.toNat with
  | .boot _ => true
  | .cart n => decide (n < 0x8000)
  | .wram0 _ => true
  | .wram1 _ => true
  | .hram _ => true
  | _ => false

/-- Puts a byte in the memory behind an address. -/
def placeByte (a : Word) (v : Byte) (s : State) : State :=
  match regionOf s.bootEnabled a.toNat with
  | .boot k => { s with bootRom := s.bootRom.write k v }
  | .cart n => { s with cart := { s.cart with rom := s.cart.rom.write (romOffset s.cart n) v } }
  | .wram0 k => { s with wram0 := s.wram0.write k v }
  | .wram1 k => { s with wram1 := s.wram1.write k v }
  | .hram k => { s with hram := s.hram.write k v }
  | _ => s

/-- The first three bytes of a list, zero where it is shorter. -/
def threeBytes (l : List Byte) : Byte × Byte × Byte := (l.getD 0 0, l.getD 1 0, l.getD 2 0)

/-- The state made ready to fetch at `pc` in the next step: running, no quirk, no copy and no interrupt in the way; a
`pc` outside plain code moves to 0xC000. -/
def readyToFetch (s : State) : State :=
  let t :=
    { s with
      cpuState := .running, haltBug := false, dmaPending := false
      ime := s.ime && decide (pendingSources s = 0) && s.hostInputs.isEmpty }
  if isPlainCode s s.regs.pc && isPlainCode s (s.regs.pc + 1) && isPlainCode s (s.regs.pc + 2) then t
  else setPc 0xC000 t

/-- Three bytes placed at `pc`. -/
def placeInstr (b : Byte × Byte × Byte) (s : State) : State :=
  placeByte (s.regs.pc + 2) b.2.2 (placeByte (s.regs.pc + 1) b.2.1 (placeByte s.regs.pc b.1 s))

end Sys2Proof.Machine
end

