-- ==== Sys2Proof/Machine/Step.lean ====
section
/-! DEFINITION. The step function (R352), and the placing of an instruction where it fetches. -/

namespace Sys2Proof.Machine

/-- One step (R352). A machine in `Faulted` has no further behaviour: the recorded fault is answered (R370, log 8). -/
def step (s : State) : Host.Outcome State Fault Refusal :=
  match s.cpuState with
  | .faulted r => .fault (.fatal r)
  | _ => runStep s

/-- The state with an instruction of the opcode table placed where the next step fetches (log 17). -/
def State.withFetchWord (s : State) (nbits w : Nat) : State :=
  placeInstr (threeBytes (tableBytes nbits w)) (readyToFetch s)

end Sys2Proof.Machine
end

