-- ==== Sys2Proof/Machine/Launch.lean ====
section
/-! DEFINITION. Building a machine: the cartridge load with its refusals (R520 to R526) and the two launches of R560 and
R563. -/

namespace Sys2Proof.Machine

/-- Why no machine is built (R524 to R526, R370). Each carries the header byte, where there is one. -/
inductive LoadRefusal where
  | malformedHeader (code : Option Byte)
  | truncatedRom (code : Byte)
  | unsupportedCartridge (type : Byte)
  deriving DecidableEq, Repr

/-- A row of the cartridge-type table (R523). -/
structure CartType where
  family  : CartFamily
  ram     : Bool
  battery : Bool
  timer   : Bool
  rumble  : Bool
  deriving DecidableEq, Repr

/-- The row of a family with the flags that the table's columns give. -/
def cartType (family : CartFamily) (ram battery timer rumble : Bool) : Option CartType :=
  some { family := family, ram := ram, battery := battery, timer := timer, rumble := rumble }

/-- The cartridge-type table (R523); `none` for an unrecognised type. -/
def cartTypeOf (t : Byte) : Option CartType :=
  match t.toNat with
  | 0x00 => cartType .romOnly false false false false
  | 0x01 => cartType .mbc1 false false false false
  | 0x02 => cartType .mbc1 true false false false
  | 0x03 => cartType .mbc1 true true false false
  | 0x05 => cartType .mbc2 true false false false
  | 0x06 => cartType .mbc2 true true false false
  | 0x08 => cartType .romOnly true false false false
  | 0x09 => cartType .romOnly true true false false
  | 0x0B => cartType .mmm01 false false false false
  | 0x0C => cartType .mmm01 true false false false
  | 0x0D => cartType .mmm01 true true false false
  | 0x0F => cartType .mbc3 false true true false
  | 0x10 => cartType .mbc3 true true true false
  | 0x11 => cartType .mbc3 false false false false
  | 0x12 => cartType .mbc3 true false false false
  | 0x13 => cartType .mbc3 true true false false
  | 0x15 => cartType .mbc4 false false false false
  | 0x16 => cartType .mbc4 false false false false
  | 0x17 => cartType .mbc4 false false false false
  | 0x19 => cartType .mbc5 false false false false
  | 0x1A => cartType .mbc5 true false false false
  | 0x1B => cartType .mbc5 true true false false
  | 0x1C => cartType .mbc5 false false false true
  | 0x1D => cartType .mbc5 true false false true
  | 0x1E => cartType .mbc5 true true false true
  | 0x20 => cartType .mbc6 false false false false
  | 0x22 => cartType .mbc7 true true false true
  | 0xFC => cartType .special false false false false
  | 0xFD => cartType .special false false false false
  | 0xFE => cartType .special false false false false
  | 0xFF => cartType .special false false false false
  | _ => none

/-- The bank count of a ROM-size code (R523). -/
def romBanksOf (c : Byte) : Option Nat :=
  if c.toNat < 8 then some (2 ^ (c.toNat + 1))
  else
    match c.toNat with
    | 0x52 => some 72
    | 0x53 => some 80
    | 0x54 => some 96
    | _ => none

/-- The size in bytes of a RAM-size code (R523). -/
def ramSizeOf (c : Byte) : Option Nat :=
  match c.toNat with
  | 0 => some 0
  | 1 => some 2048
  | 2 => some 8192
  | 3 => some 32768
  | 4 => some 131072
  | 5 => some 65536
  | _ => none

/-- The families that have a controller here (R526). -/
def isSupported (f : CartFamily) : Bool :=
  match f with
  | .romOnly => true
  | .mbc1 => true
  | .mbc3 => true
  | _ => false

/-- The capability of a type row with its sizes: without the RAM flag there is no RAM, whatever the code (R523). -/
def capabilityOf (t : CartType) (banks ramSize : Nat) : Capability :=
  { family := t.family, hasRam := t.ram, hasBattery := t.battery, hasTimer := t.timer, hasRumble := t.rumble
    ramSize := if t.ram then ramSize else 0, romBankCount := banks }

/-- The RTC's reference start time at load: that of the RTC save file, if there is one, else `RTC_NOW()` (R540). -/
def rtcStartAtLoad (rtcSave : Option Int) (h : HostClock) : Int × HostClock :=
  match rtcSave with
  | some start => (start, h)
  | none =>
    let h' := sampleClockTime h
    (h'.now, h')

/-- MBC3 at its reset values, with an RTC that started at `start` (R540; log 4 for the snapshot and the stop time). -/
def newMbc3 (start : Int) : Mbc3 :=
  { ramEnable := false, romBank := 1, ramRtcSelect := 0, latchLast := none
    rtcLatched := { seconds := 0, minutes := 0, hours := 0, dayLow := 0, dayHigh := 0 }
    rtcStartTime := start, rtcStopped := false, rtcStopTime := 0, rtcCarry := false }

/-- A controller at its reset values (R530, R540), and the host clock after the sample that an RTC takes. -/
def newController (f : CartFamily) (rtcSave : Option Int) (h : HostClock) : Controller × HostClock :=
  match f with
  | .mbc1 => (.mbc1 { ramEnable := false, bankLo := 1, bankHi := 0, mode := false }, h)
  | .mbc3 =>
    let r := rtcStartAtLoad rtcSave h
    (.mbc3 (newMbc3 r.1), r.2)
  | _ => (.romOnly, h)

/-- External RAM at load: the save file, for a cartridge with a battery (R520, R550). -/
def loadRam (cap : Capability) (save : Option (List Byte)) : Memory :=
  match save with
  | some bytes => if cap.hasBattery then Memory.ofBytes 0 (bytes.take cap.ramSize) else []
  | none => []

/-- A cartridge that has been loaded, and the host clock after the load. -/
structure Loaded where
  cart  : Cart
  clock : HostClock
  deriving DecidableEq, Repr

/-- The cartridge of an image whose header is sound and whose family is supported (R520, R521). -/
def buildCart (cap : Capability) (image : List Byte) (save : Option (List Byte)) (rtcSave : Option Int)
    (h : HostClock) : Loaded :=
  let r := newController cap.family rtcSave h
  { cart := { cap := cap, rom := Memory.ofBytes 0 image, ram := loadRam cap save, ctrl := r.1 }, clock := r.2 }

/-- The cartridge load (R521 to R526), from the image, the save files, if there are any, and the host clock at load. The
header is checked first, then the type, then the length (DEDUCED, log 20). DESIGN CHOICE (log 20): the byte that a
refusal carries is the ROM-size code for `TruncatedRom` and for a header whose two size codes are both outside their
tables; R370 only says "the header byte". -/
def loadCartridge (image : List Byte) (save : Option (List Byte)) (rtcSave : Option Int) (h : HostClock) :
    Except LoadRefusal Loaded :=
  if image.length < 0x150 then .error (.malformedHeader none)
  else
    let type := image.getD 0x147 0
    let romCode := image.getD 0x148 0
    let ramCode := image.getD 0x149 0
    match romBanksOf romCode, ramSizeOf ramCode with
    | none, _ => .error (.malformedHeader (some romCode))
    | _, none => .error (.malformedHeader (some ramCode))
    | some banks, some ramSize =>
      match cartTypeOf type with
      | none => .error (.unsupportedCartridge type)
      | some t =>
        if !isSupported t.family then .error (.unsupportedCartridge type)
        else if image.length < banks * 0x4000 then .error (.truncatedRom romCode)
        else .ok (buildCart (capabilityOf t banks ramSize) image save rtcSave h)

/-- The `power_on` launch with a boot image, a loaded cartridge and parameters (R560). -/
def powerOn (boot : List Byte) (l : Loaded) (params : Params) : State :=
  { State.reset with
    bootRom := Memory.ofBytes 0 (boot.take 256), cart := l.cart, hostClock := l.clock, params := params }

/-- The PPU of a `post_boot` launch: the registers of R49, at the phase of the schedule that the unspecified display
enable time gives. -/
def postBootPpu (params : Params) (clock : Nat) (u : Ppu) : Ppu :=
  let start := min u.displayEnableTime clock
  let now := schedule params.mode3Len (clock - start)
  { u with
    lcdc := 0x91, statEnables := 0, scy := 0, scx := 0, lyc := 0, bgp := 0xFC, wy := 0, wx := 0
    displayEnableTime := start, line := now.1, mode := now.2
    vramAccess := vramGate now.2, oamAccess := oamGate now.2, statLine := false }

/-- The `post_boot` launch (R563): the column `post_boot` of R49, with every unspecified value taken from the state `u`
(log 21). -/
def postBoot (l : Loaded) (params : Params) (u : State) : State :=
  let clock := u.cpuClock / 4 * 4
  { u with
    regs := { a := 0x01, f := { z := true, n := false, h := true, c := true }, b := 0x00, c := 0x13, d := 0x00
              e := 0xD8, h := 0x01, l := 0x4D, sp := 0xFFFE, pc := 0x0100 }
    ime := false, imePending := false, cpuState := .running, haltBug := false
    ie := 0x00, iflag := 1, dma := 0xFF, dmaPending := false, bootEnabled := false
    cpuClock := clock
    timer := { div := 0xABCC, divLast := 0xABCC, tima := 0x00, tma := 0x00, tac := 0, overflow := false }
    joypSelect := 0b11, sb := 0x00, sc := 0x00
    ppu := postBootPpu params clock u.ppu
    apu := { u.apu with power := true }
    cart := l.cart, hostClock := l.clock, params := params }

/-- The parameter `LAUNCH` (R7, R560, R563): `power_on` with its boot image, or `post_boot` with the state that what it
leaves unspecified is taken from (log 21). -/
inductive LaunchKind where
  | powerOn (boot : List Byte)
  | postBoot (unspecified : State)
  deriving DecidableEq, Repr

/-- Building the machine: the cartridge load must succeed first (R560). -/
def launch (kind : LaunchKind) (params : Params) (image : List Byte) (save : Option (List Byte))
    (rtcSave : Option Int) (h : HostClock) : Except LoadRefusal State :=
  match loadCartridge image save rtcSave h, kind with
  | .error e, _ => .error e
  | .ok l, .powerOn boot => .ok (Machine.powerOn boot l params)
  | .ok l, .postBoot u => .ok (Machine.postBoot l params u)

end Sys2Proof.Machine
end

