-- ==== Sys2Proof/Safety.lean ====
section
/-! DEFINITION. The terms claims use: what a safe step is, which byte of memory an access reaches, what an instruction
leaves alone, the costs, the sound registers and the picture as tables and pixels, and the invariants of the machine. -/

namespace Sys2Proof.Machine

/-! ## Safe steps -/

/-- The step answers a next state. -/
def SafeStep (s : State) : Prop := ∃ t, step s = .next t

/-- The machine has not faulted (R29). -/
def NotFaulted (s : State) : Prop := ∀ r, s.cpuState ≠ .faulted r

/-! ## Bytes of memory -/

/-- One byte of one of the arrays behind the bus (R41), by offset. -/
inductive MemoryCell where
  | bootRom (k : Nat)
  | cartRom (k : Nat)
  | cartRam (k : Nat)
  | vram (k : Nat)
  | wram0 (k : Nat)
  | wram1 (k : Nat)
  | oam (k : Nat)
  | hram (k : Nat)
  | waveRam (k : Nat)
  deriving DecidableEq, Repr

/-- The byte a cell holds. -/
def cellRead (c : MemoryCell) (s : State) : Byte :=
  match c with
  | .bootRom k => s.bootRom.read k
  | .cartRom k => s.cart.rom.read k
  | .cartRam k => s.cart.ram.read k
  | .vram k => s.vram.read k
  | .wram0 k => s.wram0.read k
  | .wram1 k => s.wram1.read k
  | .oam k => s.oam.read k
  | .hram k => s.hram.read k
  | .waveRam k => s.waveRam.read k

/-- The cell that a row of the map stands for, if it stands for memory: gating apart, for a load and a store alike. -/
def regionCell (c : Cart) (r : Region) : Option MemoryCell :=
  match r with
  | .boot k => some (.bootRom k)
  | .cart a => if a < 0x8000 then some (.cartRom (romOffset c a)) else (ramWindow c a).map .cartRam
  | .vram k => some (.vram k)
  | .wram0 k => some (.wram0 k)
  | .wram1 k => some (.wram1 k)
  | .oam k => some (.oam k)
  | .oamTail => none
  | .io r =>
    match r with
    | .wave k => some (.waveRam k)
    | _ => none
  | .hram k => some (.hram k)
  | .ie => none

/-- The cell that an address stands for, if it stands for memory. -/
def cellOf (s : State) (addr : Word) : Option MemoryCell := regionCell s.cart (regionOf s.bootEnabled addr.toNat)

/-- A store to the address can change nothing but memory, `IE` or a real-time clock's hidden time: every row of the map
but the controller's registers and the I/O registers (R75, R90). -/
def isPlainTarget (s : State) (addr : Word) : Bool :=
  match regionOf s.bootEnabled addr.toNat with
  | .boot _ => false
  | .cart a => decide (0x8000 ≤ a)
  | .io r =>
    match r with
    | .wave _ => true
    | _ => false
  | _ => true

/-- The gates are open at an address (R77). -/
def isUngated (s : State) (addr : Word) : Bool :=
  match regionOf s.bootEnabled addr.toNat with
  | .vram _ => s.ppu.vramAccess
  | .oam _ => s.ppu.oamAccess
  | _ => true

/-- A store to the address is a store to a byte of memory that a load reads back: a cell that is not read-only and not
gated. -/
def isStorable (s : State) (addr : Word) : Bool := isPlainTarget s addr && isUngated s addr && (cellOf s addr).isSome

/-! ## Frames -/

/-- Nothing but the CPU register file differs. -/
def OnlyRegs (s t : State) : Prop := t = { s with regs := t.regs }

/-- The 8-bit registers outside `changed` are the same. -/
def Keeps8 (changed : List Operand8) (s t : State) : Prop :=
  ∀ o, o ≠ .atHl → o ∉ changed → getOperand8 o t = getOperand8 o s

/-- `SP` and `pc` are the same. -/
def KeepsPointers (s t : State) : Prop := t.regs.sp = s.regs.sp ∧ t.regs.pc = s.regs.pc

/-- Every byte of memory is the same. -/
def KeepsMemory (s t : State) : Prop := ∀ c, cellRead c t = cellRead c s

/-- Every byte of memory is the same but the one that `addr` stands for in `s`. -/
def KeepsMemoryBut (addr : Word) (s t : State) : Prop := ∀ c, cellOf s addr ≠ some c → cellRead c t = cellRead c s

/-- The CPU control state is the same: `IME`, `ime_pending`, `halt_bug`, `cpu_state` (R27 to R30), the clock (R35), the
parameters, the button lines and the host's inputs. No store reaches them. -/
def KeepsControl (s t : State) : Prop :=
  t.ime = s.ime ∧ t.imePending = s.imePending ∧ t.haltBug = s.haltBug ∧ t.cpuState = s.cpuState ∧
    t.cpuClock = s.cpuClock ∧ t.params = s.params ∧ t.buttons = s.buttons ∧ t.hostInputs = s.hostInputs

/-- The devices and their registers are the same: timer, joypad, serial, PPU, APU, `IF`, DMA register, boot switch. -/
def KeepsDevices (s t : State) : Prop :=
  t.timer = s.timer ∧ t.joypSelect = s.joypSelect ∧ t.sb = s.sb ∧ t.sc = s.sc ∧ t.ppu = s.ppu ∧ t.apu = s.apu ∧
    t.iflag = s.iflag ∧ t.dma = s.dma ∧ t.dmaPending = s.dmaPending ∧ t.bootEnabled = s.bootEnabled

/-- What is fixed when the machine is built: the parameters, the boot image, the cartridge image and its capability
(R7, R78, R520, R521). -/
def SameBuild (s t : State) : Prop :=
  t.params = s.params ∧ t.bootRom = s.bootRom ∧ t.cart.rom = s.cart.rom ∧ t.cart.cap = s.cart.cap

/-! ## Results of instructions, with their frames -/

/-- An 8-bit register got a value: no other register but the flags may differ, and nothing outside the registers. -/
def RegisterResult (dst : Operand8) (v : Byte) (s t : State) : Prop :=
  OnlyRegs s t ∧ getOperand8 dst t = v ∧ Keeps8 [dst] s t ∧ KeepsPointers s t

/-- `A` got a value and the flags got theirs; no other register differs, and nothing outside the registers. -/
def AccResult (a : Nat) (f : Flags) (s t : State) : Prop :=
  OnlyRegs s t ∧ t.regs.a.toNat = a ∧ t.regs.f = f ∧ Keeps8 [.a] s t ∧ KeepsPointers s t

/-- Only the flags changed, to `f`. -/
def FlagsResult (f : Flags) (s t : State) : Prop := t = { s with regs := { s.regs with f := f } }

/-- What one byte store leaves alone: the CPU, what is fixed at load, every byte of memory but the one at the address,
`IE` unless the address is its own, and the devices if the address is no register of theirs. -/
def StoreFrame (addr : Word) (s t : State) : Prop :=
  KeepsControl s t ∧ SameBuild s t ∧ KeepsMemoryBut addr s t ∧ (addr ≠ 0xFFFF → t.ie = s.ie) ∧
    (isPlainTarget s addr = true → KeepsDevices s t)

/-- One byte was stored, and nothing else happened. -/
def StoreResult (addr : Word) (v : Byte) (s t : State) : Prop :=
  t = busWrite addr v s ∧ t.regs = s.regs ∧ StoreFrame addr s t

/-- A word was pushed: its high byte below `SP`, then its low byte below that; `u` is the state between the stores.
`SP` went down by 2 and no other register changed. -/
def PushResult (v : Word) (s t : State) : Prop :=
  ∃ u, u = busWrite (s.regs.sp - 1) (highByte v) s ∧ StoreFrame (s.regs.sp - 1) s u ∧
    t = { busWrite (s.regs.sp - 2) (lowByte v) u with regs := { s.regs with sp := s.regs.sp - 2 } } ∧
    StoreFrame (s.regs.sp - 2) u t

/-! ## Costs, in clock cycles -/

/-- A row of the table of R160, by the high nibble of the opcode, with every conditional transfer taken; 0 stands for
the prefix and the illegal opcodes, which have no cost there. -/
def costRow (high : Nat) : List Nat :=
  match high with
  | 0x0 => [4, 12, 8, 8, 4, 4, 8, 4, 20, 8, 8, 8, 4, 4, 8, 4]
  | 0x1 => [4, 12, 8, 8, 4, 4, 8, 4, 12, 8, 8, 8, 4, 4, 8, 4]
  | 0x2 => [12, 12, 8, 8, 4, 4, 8, 4, 12, 8, 8, 8, 4, 4, 8, 4]
  | 0x3 => [12, 12, 8, 8, 12, 12, 12, 4, 12, 8, 8, 8, 4, 4, 8, 4]
  | 0x7 => [8, 8, 8, 8, 8, 8, 4, 8, 4, 4, 4, 4, 4, 4, 8, 4]
  | 0xC => [20, 12, 16, 16, 24, 16, 8, 16, 20, 16, 16, 0, 24, 24, 8, 16]
  | 0xD => [20, 12, 16, 0, 24, 16, 8, 16, 20, 16, 16, 0, 24, 0, 8, 16]
  | 0xE => [12, 12, 8, 0, 0, 16, 8, 16, 16, 4, 16, 0, 0, 0, 8, 16]
  | 0xF => [12, 12, 8, 4, 0, 16, 8, 16, 12, 8, 16, 4, 0, 0, 8, 16]
  | _ => [4, 4, 4, 4, 4, 4, 8, 4, 4, 4, 4, 4, 4, 4, 8, 4]

/-- The cost of a base-page opcode in the table of R160. -/
def tableCost (op : Byte) : Nat := (costRow (op.toNat / 16)).getD (op.toNat % 16) 0

/-! ## The sound registers, by address (R481) -/

/-- A row of the table of R481: the address, the stored byte, how it is replaced, and the read mask. -/
structure SoundRow where
  address : Word
  get     : ApuRegs → Byte
  put     : Byte → ApuRegs → ApuRegs
  mask    : Byte

/-- The registers whose store does nothing but store (R482, "all others"). -/
def plainSoundRows : List SoundRow :=
  [⟨0xFF10, (·.nr10), fun v g => { g with nr10 := v }, 0x80⟩, ⟨0xFF13, (·.nr13), fun v g => { g with nr13 := v }, 0xFF⟩,
   ⟨0xFF18, (·.nr23), fun v g => { g with nr23 := v }, 0xFF⟩, ⟨0xFF1C, (·.nr32), fun v g => { g with nr32 := v }, 0x9F⟩,
   ⟨0xFF1D, (·.nr33), fun v g => { g with nr33 := v }, 0xFF⟩, ⟨0xFF22, (·.nr43), fun v g => { g with nr43 := v }, 0x00⟩,
   ⟨0xFF24, (·.nr50), fun v g => { g with nr50 := v }, 0x00⟩, ⟨0xFF25, (·.nr51), fun v g => { g with nr51 := v }, 0x00⟩]

/-- The registers whose store also acts on their channel (R482). -/
def actingSoundRows : List SoundRow :=
  [⟨0xFF11, (·.nr11), fun v g => { g with nr11 := v }, 0x3F⟩, ⟨0xFF12, (·.nr12), fun v g => { g with nr12 := v }, 0x00⟩,
   ⟨0xFF14, (·.nr14), fun v g => { g with nr14 := v }, 0xBF⟩, ⟨0xFF16, (·.nr21), fun v g => { g with nr21 := v }, 0x3F⟩,
   ⟨0xFF17, (·.nr22), fun v g => { g with nr22 := v }, 0x00⟩, ⟨0xFF19, (·.nr24), fun v g => { g with nr24 := v }, 0xBF⟩,
   ⟨0xFF1A, (·.nr30), fun v g => { g with nr30 := v }, 0x7F⟩, ⟨0xFF1B, (·.nr31), fun v g => { g with nr31 := v }, 0xFF⟩,
   ⟨0xFF1E, (·.nr34), fun v g => { g with nr34 := v }, 0xBF⟩, ⟨0xFF20, (·.nr41), fun v g => { g with nr41 := v }, 0xFF⟩,
   ⟨0xFF21, (·.nr42), fun v g => { g with nr42 := v }, 0x00⟩, ⟨0xFF23, (·.nr44), fun v g => { g with nr44 := v }, 0xBF⟩]

/-! ## The picture, pixel by pixel (R450 to R453) -/

/-- The row of a line in a frame, if it has been drawn. -/
def frameRow (f : Frame) (ly : Nat) : Option (List Shade) := f.lookup ly

/-- `Shade(pal, c)`: bits `2c+1` and `2c` of the palette. -/
def paletteShade (pal : Byte) (c : Nat) : Nat := pal.toNat / 4 ^ c % 4

/-- `TileRowPixel(taddr, row, col)`: the colour from the two bit planes of a tile row. -/
def tileColour (s : State) (taddr row col : Nat) : Nat :=
  let plane := fun k => ((s.vram.read (taddr - 0x8000 + 2 * row + k)).getLsbD (7 - col)).toNat
  2 * plane 1 + plane 0

/-- `TilePixel(map, px, py)`. -/
def mapColour (s : State) (map : Bool) (px py : Nat) : Nat :=
  let t := s.vram.read ((if map then 0x9C00 else 0x9800) - 0x8000 + 32 * (py / 8) + px / 8)
  let taddr : Int := if s.ppu.lcdc.getLsbD 4 then 0x8000 + 16 * (t.toNat : Int) else 0x9000 + 16 * t.toInt
  tileColour s taddr.toNat (py % 8) (px % 8)

/-- `idx[x]` of line `ly`: the window's colour where it is enabled and in bounds, else the background's, if enabled. -/
def underColour (s : State) (ly x : Nat) : Nat :=
  let p := s.ppu
  if p.lcdc.getLsbD 5 = true ∧ p.wy.toNat ≤ ly ∧ p.wx.toNat ≤ x + 7 then
    mapColour s (p.lcdc.getLsbD 6) (x + 7 - p.wx.toNat) (ly - p.wy.toNat)
  else if p.lcdc.getLsbD 0 = true then
    mapColour s (p.lcdc.getLsbD 3) ((x + p.scx.toNat) % 256) ((ly + p.scy.toNat) % 256)
  else 0

/-- Byte `k` of entry `i` of `OAM`: `Y`, `X`, `tile`, attribute. -/
def oamByte (s : State) (i k : Nat) : Byte := s.oam.read (4 * i + k)

/-- The height of every sprite. -/
def spriteLines (s : State) : Nat := if s.ppu.lcdc.getLsbD 2 then 16 else 8

/-- Entry `i` overlaps line `ly`. -/
def OverlapsLine (s : State) (ly i : Nat) : Prop :=
  (oamByte s i 0).toNat ≤ ly + 16 ∧ ly + 16 < (oamByte s i 0).toNat + spriteLines s

/-- Entry `a` beats entry `b`: a lower `X`, or the same `X` and a lower index. -/
def BeatsSprite (s : State) (a b : Nat) : Prop :=
  oamByte s a 1 < oamByte s b 1 ∨ (oamByte s a 1 = oamByte s b 1 ∧ a < b)

/-- Entry `i` is among the visible ones of line `ly`: sprites are enabled, it overlaps the line, and fewer than ten of
the entries that overlap it beat it. -/
def VisibleSprite (s : State) (ly i : Nat) : Prop :=
  s.ppu.lcdc.getLsbD 1 = true ∧ i < 40 ∧ OverlapsLine s ly i ∧
    ∀ l : List Nat, l.Nodup → (∀ j ∈ l, j < 40 ∧ OverlapsLine s ly j ∧ BeatsSprite s j i) → l.length < 10

/-- The colour of entry `i` in its column `col` on line `ly`, with its flips; of a sprite of two tiles, the upper half
is the even tile. -/
def spriteColour (s : State) (ly i col : Nat) : Nat :=
  let attr := oamByte s i 3
  let down := ly + 16 - (oamByte s i 0).toNat
  let row := if attr.getLsbD 6 then spriteLines s - 1 - down else down
  let tile := (oamByte s i 2).toNat
  let t := if spriteLines s = 8 then tile else tile - tile % 2 + row / 8
  tileColour s (0x8000 + 16 * t) (row % 8) (if attr.getLsbD 5 then 7 - col else col)

/-- Entry `i` paints pixel `x` of line `ly`: one of its columns lies there, its colour is not the transparent one, and
it is not behind a background or window pixel that is not transparent. -/
def PaintsPixel (s : State) (ly i x : Nat) : Prop :=
  ∃ col < 8, x + 8 = (oamByte s i 1).toNat + col ∧ spriteColour s ly i col ≠ 0 ∧
    ((oamByte s i 3).getLsbD 7 = true → underColour s ly x = 0)

/-- The shade that entry `i` paints at pixel `x` of line `ly`. -/
def paintedShade (s : State) (ly i x : Nat) : Nat :=
  paletteShade (if (oamByte s i 3).getLsbD 4 then s.ppu.obp1 else s.ppu.obp0)
    (spriteColour s ly i (x + 8 - (oamByte s i 1).toNat))

/-! ## Rotates and shifts, bit by bit (R280 to R292) -/

/-- Bit `i` of the result of `rot[o]` on `v` with carry-in `cin`. -/
def rotatedBit (o : RotOp) (v : Byte) (cin : Bool) (i : Nat) : Bool :=
  match o with
  | .rlc => v.getLsbD ((i + 7) % 8)
  | .rrc => v.getLsbD ((i + 1) % 8)
  | .rl => if i = 0 then cin else v.getLsbD (i - 1)
  | .rr => if i = 7 then cin else v.getLsbD (i + 1)
  | .sla => if i = 0 then false else v.getLsbD (i - 1)
  | .sra => if i = 7 then v.getLsbD 7 else v.getLsbD (i + 1)
  | .swap => v.getLsbD ((i + 4) % 8)
  | .srl => if i = 7 then false else v.getLsbD (i + 1)

/-- The bit that `rot[o]` shifts out of `v`; SWAP clears the carry. -/
def shiftedOut (o : RotOp) (v : Byte) : Bool :=
  match o with
  | .rlc => v.getLsbD 7
  | .rl => v.getLsbD 7
  | .sla => v.getLsbD 7
  | .swap => false
  | .rrc => v.getLsbD 0
  | .rr => v.getLsbD 0
  | .sra => v.getLsbD 0
  | .srl => v.getLsbD 0

/-- `w` is `v` rotated or shifted. -/
def IsRotated (o : RotOp) (v : Byte) (cin : Bool) (w : Byte) : Prop := ∀ i < 8, w.getLsbD i = rotatedBit o v cin i

/-! ## Invariants -/

/-- The clock and the divider move by machine cycles, and the edge detector is up to date (R35, R36, R403). -/
def ClockInv (s : State) : Prop :=
  s.cpuClock % 4 = 0 ∧ s.timer.div.toNat % 4 = 0 ∧ s.timer.divLast = s.timer.div

/-- A memory in canonical form, of `n` bytes. -/
def IsArray (n : Nat) (m : Memory) : Prop := m.wf = true ∧ m.within n = true

/-- Every memory the machine can store to is in canonical form and of its size (R41, R520). -/
def MemoryInv (s : State) : Prop :=
  IsArray 8192 s.vram ∧ IsArray 4096 s.wram0 ∧ IsArray 4096 s.wram1 ∧ IsArray 160 s.oam ∧ IsArray 127 s.hram ∧
    IsArray 16 s.waveRam ∧ IsArray s.cart.cap.ramSize s.cart.ram

/-- The PPU while the display is off (R434, R437). -/
def PpuOff (p : Ppu) : Prop :=
  p.line = 0 ∧ p.mode = .hblank ∧ p.vramAccess = true ∧ p.oamAccess = true ∧ p.statLine = false ∧
    p.swallowFrame = false

/-- The PPU during the start-up delay (R439). -/
def PpuStarting (p : Ppu) : Prop := p.line = 0 ∧ p.mode = .hblank ∧ p.vramAccess = true ∧ p.oamAccess = true

/-- The PPU on its schedule, at display clock `dc`: line and mode, gates, and the lcd-stat line (R436, R437, R441). -/
def PpuOnSchedule (mode3Len dc : Nat) (p : Ppu) : Prop :=
  (p.line, p.mode) = schedule mode3Len dc ∧ p.vramAccess = vramGate p.mode ∧ p.oamAccess = oamGate p.mode ∧
    p.statLine = statCondition p

/-- The PPU agrees with the clock (R433 to R441). -/
def PpuInv (s : State) : Prop :=
  if displayOn s.ppu = false then PpuOff s.ppu
  else if s.cpuClock < s.ppu.displayEnableTime then PpuStarting s.ppu
  else PpuOnSchedule s.params.mode3Len (s.cpuClock - s.ppu.displayEnableTime) s.ppu

/-- The APU's counters are in their ranges (R484, R494). -/
def ApuInv (s : State) : Prop :=
  s.apu.ch1.len ≤ 64 ∧ s.apu.ch2.len ≤ 64 ∧ s.apu.ch3.len ≤ 256 ∧ s.apu.ch4.len ≤ 64 ∧
    s.apu.ch1.envTimer ≤ 8 ∧ s.apu.ch2.envTimer ≤ 8 ∧ s.apu.ch4.envTimer ≤ 8 ∧ s.apu.sweep.timer ≤ 8 ∧
    s.apu.seqDiv % 4 = 0 ∧ s.apu.seqDiv ≤ 8188 ∧ s.apu.sampleAcc < clockRate ∧
    (s.apu.power = false → s.apu.regs = ApuRegs.off ∧ s.apu.ch1.on = false ∧ s.apu.ch2.on = false ∧
      s.apu.ch3.on = false ∧ s.apu.ch4.on = false)

/-- The controller's registers hold legal values (R530, R532, R540, R542, R543). -/
def ControllerInv (s : State) : Prop :=
  match s.cart.ctrl with
  | .romOnly => True
  | .mbc1 m => m.bankLo ≠ 0
  | .mbc3 m => m.romBank ≠ 0 ∧ (m.ramRtcSelect.toNat ≤ 3 ∨ (8 ≤ m.ramRtcSelect.toNat ∧ m.ramRtcSelect.toNat ≤ 12))

/-- A pending EI and a pending halt quirk only stand in a machine that runs, or has faulted (R28, R30, R337, R332). -/
def DelayInv (s : State) : Prop :=
  (s.imePending = true ∨ s.haltBug = true) → s.cpuState = .running ∨ ¬ NotFaulted s

/-- The parameters are legal (R7). -/
def ParamsInv (s : State) : Prop := validParams s.params = true

end Sys2Proof.Machine
end

