-- ==== Sys2Proof/Certificates/Slice0/Obligations.lean ====
section
/-! DEFINITION. The statements for the provers. Each says which rule of spec/ it formalises; what the model chose is
named by its log entry. -/

open Sys2Proof Sys2Proof.Machine

/-! ## Encoding -/

/-- R140 to R151: an encoded instruction decodes to itself, whatever bytes follow it. The lone prefix byte (log 16) only
decodes to itself where nothing follows. -/
def Obligations.DecodeOfEncode : Prop :=
  ∀ (i : Instr) (rest : List Byte), i.wellFormed = true → (i ≠ .prefixCb ∨ rest = []) →
    decode (encode i ++ rest) = .ok (i, rest)

/-- R140, R145, R162: whatever three bytes the machine fetches, the instruction it runs is well formed, and its encoding
is the first bytes of the three, as many as R162 gives the first byte. -/
def Obligations.EncodeOfDecodedBytes : Prop :=
  ∀ b0 b1 b2 : Byte,
    (decodeBytes b0 b1 b2).wellFormed = true ∧ decodeBytes b0 b1 b2 ≠ .prefixCb ∧
      encode (decodeBytes b0 b1 b2) = [b0, b1, b2].take (opcodeLength b0)

/-- R150, R151: words written out from the map. -/
def Obligations.SampleWordsDecode : Prop :=
  decode [0x78, 0x00] = .ok (.ldAB, [0x00]) ∧
    decode [0x08, 0x00, 0xC1] = .ok (.ldAtA16Sp 0xC100, []) ∧
    decode [0x9C] = .ok (.sbcAH, []) ∧
    decode [0x39] = .ok (.addHlSp, []) ∧
    decode [0xF8, 0xFE] = .ok (.ldHlSpE8 0xFE, []) ∧
    decode [0xCB, 0x65, 0x01] = .ok (.bit4L, [0x01]) ∧
    decode [0xDC, 0x34, 0x12] = .ok (.callCA16 0x1234, []) ∧
    decode [0x10, 0x00] = .ok (.stop 0x00, []) ∧
    decode [0x76] = .ok (.halt, []) ∧
    decode [0xED] = .ok (.illegal 0xED, []) ∧
    decode [0xC3, 0x50] = .error (.truncated 0xC3)

/-! ## The step -/

/-- R26, R27, R28, R145, R352: where the host's input, the DMA copy and the wake-up check leave a running machine `u`
with no interrupt due, the step runs the instruction that the bytes at `pc` decode to: `pc` goes past its bytes (its
opcode byte is not counted while the halt quirk is set, R30), its effect happens, then the end of the EI delay and the
clock advance by its cost, neither of them after a fatal fault. An interrupt is due exactly when `IME` is set and one of
the five sources is both enabled and requested. In a running machine with no input and no copy due, `u` is the state
itself. -/
def Obligations.StepRunsDecodedInstruction : Prop :=
  ∀ (s : State) (i : Instr) (rest : List Byte),
    let u := wake (runDma (takeHostInput s))
    (s.cpuState = .running → s.hostInputs = [] → s.dmaPending = false → u = s) ∧
    (interruptDue u = true ↔ u.ime = true ∧ ∃ n < 5, (u.ie.getLsbD n && u.iflag.getLsbD n) = true) ∧
    (∀ (eiWasPending : Bool) (cost : Nat) (t : State),
      (NotFaulted t → endInstruction eiWasPending cost t = advanceClock cost
        (if eiWasPending && t.imePending then { t with ime := true, imePending := false } else t)) ∧
      ∀ r, t.cpuState = .faulted r → endInstruction eiWasPending cost t = t) ∧
    (u.cpuState = .running → interruptDue u = false →
      decode [busRead u u.regs.pc, busRead u (operandAddress u), busRead u (operandAddress u + 1)] = .ok (i, rest) →
      afterFetch i u =
          { u with
            haltBug := false
            regs := { u.regs with
              pc := (if u.haltBug then u.regs.pc else u.regs.pc + 1) + BitVec.ofNat 16 ((encode i).length - 1) } } ∧
        step s =
          (match exec i (afterFetch i u) with
          | .next t => .next (endInstruction u.imePending (instrCost i (afterFetch i u)) t)
          | .fault r => .fault r
          | .refused r => .refused r))

/-- R29, R370: every machine that has not faulted takes a step, and no step refuses. That a machine which has faulted
answers its recorded fault is the model's choice (DEDUCED, log 8): R370 says that its step is undefined. -/
def Obligations.StepFaultsOnlyWhenFaulted : Prop :=
  ∀ s : State, (∃ r, s.cpuState = .faulted r ∧ step s = .fault (.fatal r)) ∨ (NotFaulted s ∧ SafeStep s)

/-- R160, R161, R352: the cost of every instruction under the default `COST`, in clock cycles: the table of R160 for the
base page, its second numbers where a conditional transfer's condition fails, R161 for the CB page, and for a lone
prefix byte (log 16) the cost of the entry it selects; and, under any `COST`, the step of an instruction moves the clock
by its cost. -/
def Obligations.InstructionCosts : Prop :=
  ∀ s : State,
    let cost := fun i : Instr => 4 * instrCost i s
    let u := wake (runDma (takeHostInput s))
    (s.params.costChanges = [] →
      (∀ (i : Instr) (op : Byte) (rest : List Byte), i.wellFormed = true → encode i = op :: rest → op ≠ 0xCB →
        (∀ b, i ≠ .illegal b) →
        (∀ cc e nn, condHolds cc s.regs.f = false →
          i ≠ .jrIf cc e ∧ i ≠ .jpIf cc nn ∧ i ≠ .callIf cc nn ∧ i ≠ .retIf cc) →
        cost i = tableCost op) ∧
      (∀ cc e nn, condHolds cc s.regs.f = false →
        cost (.jrIf cc e) = 8 ∧ cost (.jpIf cc nn) = 12 ∧ cost (.callIf cc nn) = 12 ∧ cost (.retIf cc) = 8) ∧
      cost .prefixCb = cost (decodeCb (busRead s s.regs.pc)) ∧
      ∀ (o : RotOp) (k : BitNo) (x : Operand8),
        cost (.rot o x) = (if x = .atHl then 16 else 8) ∧ cost (.bit k x) = (if x = .atHl then 12 else 8) ∧
          cost (.res k x) = (if x = .atHl then 16 else 8) ∧ cost (.set k x) = (if x = .atHl then 16 else 8)) ∧
    ∀ t : State, u.cpuState = .running → interruptDue u = false → step s = .next t → NotFaulted t →
      t.cpuClock = s.cpuClock + 4 * instrCost (fetchInstr u) (afterFetch (fetchInstr u) u)

/-- R352, R354, R355, R356: with `IME` set and an enabled source requested, the step of a machine that runs, is halted
or is stopped and woken enters the lowest such source `n` and advances the clock by 20 cycles, whatever is at `pc`. `u`
is the machine after the host's input and the DMA copy: the state itself, where neither is due. -/
def Obligations.StepTakesLowestInterrupt : Prop :=
  ∀ (s : State) (n : Nat),
    let u := runDma (takeHostInput s)
    (s.hostInputs = [] → s.dmaPending = false → u = s) ∧
    (u.cpuState = .running ∨ u.cpuState = .halted ∨ (u.cpuState = .stopped ∧ stopWakes u = true) →
      u.ime = true → n < 5 → (u.ie.getLsbD n && u.iflag.getLsbD n) = true →
      (∀ j < n, (u.ie.getLsbD j && u.iflag.getLsbD j) = false) →
      ∃ t, step s = .next t ∧ t = advanceClock 5 (interruptEntry n { u with cpuState := .running }) ∧
        t.cpuClock = s.cpuClock + 20)

/-- R356: the entry pushes `pc`, goes to `0x0040 + 8 n`, clears `IME` and `ime_pending`, and withdraws request `n` after
the push; nothing else is saved or changed. -/
def Obligations.InterruptEntryEffect : Prop :=
  ∀ (s : State) (n : Nat), n < 5 →
    ∃ p, PushResult s.regs.pc s p ∧
      interruptEntry n s =
        { p with
          regs := { p.regs with pc := BitVec.ofNat 16 (0x40 + 8 * n) }
          ime := false, imePending := false, iflag := (interruptEntry n s).iflag } ∧
      ∀ j < 5, (interruptEntry n s).iflag.getLsbD j = (p.iflag.getLsbD j && decide (j ≠ n))

/-- R334, R352, R354, R362, R375: a halted machine with an enabled request steps as a running one, whatever `IME` is,
and so does a stopped one that `STOP_WAKE` wakes; a halted one without a request, and a stopped one that is not woken,
only let 4 cycles pass. The clock advance is a number of machine cycles, each of which moves the clock by 4 cycles and
then steps the timer, the PPU and the APU. `STOP_WAKE` is never true, or true while a `JOYP` line is low, as the
parameter says, or any other predicate. `u` is the machine after the host's input and the DMA copy: the state itself,
where neither is due. -/
def Obligations.HaltedStep : Prop :=
  ∀ s : State,
    let u := runDma (takeHostInput s)
    let requested := ∃ n < 5, (u.ie.getLsbD n && u.iflag.getLsbD n) = true
    (s.hostInputs = [] → s.dmaPending = false → u = s) ∧
    (s.cpuState = .halted → requested → step s = step { s with cpuState := .running }) ∧
    (s.cpuState = .stopped → stopWakes u = true → step s = step { s with cpuState := .running }) ∧
    (u.params.stopWake = .never → stopWakes u = false) ∧
    (u.params.stopWake = .joypadLine → (stopWakes u = true ↔ ∃ i < 4, (busRead u 0xFF00).getLsbD i = false)) ∧
    ((u.cpuState = .halted ∧ ¬requested) ∨ (u.cpuState = .stopped ∧ stopWakes u = false) →
      ∃ t, step s = .next t ∧ t = advanceClock 1 u ∧ t.cpuClock = s.cpuClock + 4 ∧ t.regs = s.regs ∧
        t.cpuState = s.cpuState ∧ t.ime = s.ime ∧ KeepsMemory u t) ∧
    ∀ (cycles : Nat) (v : State),
      advanceClock 0 v = v ∧
        advanceClock (cycles + 1) v =
          advanceClock cycles (apuStep (ppuStep (timerStep { v with cpuClock := v.cpuClock + 4 })))

/-- R110, R111, R112, R352: a store to 0xFF46 triggers the copy; the next step begins with it, after the host's input,
and goes on as the step of the machine that it leaves; it fills `OAM` from the page through the map with the gates open
and changes nothing else; page 0xFE is a fatal fault instead, and the step ends there. -/
def Obligations.OamDma : Prop :=
  ∀ s : State,
    (∀ v, busWrite 0xFF46 v s = { s with dma := v, dmaPending := true }) ∧ busRead s 0xFF46 = s.dma ∧
    (s.dmaPending = true → s.dma ≠ 0xFE →
      runDma s = { s with oam := (runDma s).oam, dmaPending := false } ∧
      (s.hostInputs = [] → step s = step (runDma s)) ∧
      ∀ i < 160, (runDma s).oam.read i =
        busRead { s with ppu := { s.ppu with vramAccess := true, oamAccess := true } }
          (BitVec.ofNat 16 (s.dma.toNat * 256 + i))) ∧
    (s.dmaPending = true → s.dma = 0xFE → NotFaulted s →
      step s = .next { takeHostInput s with cpuState := .faulted (.dmaOverlap 0xFE) })

/-- R28, R337: a step that executes an instruction while an EI is pending ends with interrupts enabled and none pending,
unless the instruction is DI or faults. `u` is the machine that fetches. -/
def Obligations.EiTakesEffectAfterOneInstruction : Prop :=
  ∀ s t : State,
    let u := wake (runDma (takeHostInput s))
    u.cpuState = .running → interruptDue u = false → s.imePending = true → fetchInstr u ≠ .di → step s = .next t →
    NotFaulted t → t.ime = true ∧ t.imePending = false

/-! ## 8-bit and 16-bit loads -/

/-- R181 to R185: a load into a register moves one byte from a register, the instruction or the byte at `HL`; no flag,
no other register and no memory changes. A store through `HL = H :: L` stores the register or the immediate there, and
changes no register and no flag. -/
def Obligations.LoadsOfOneByte : Prop :=
  ∀ (dst src : Operand8) (n : Byte) (s : State),
    (dst ≠ .atHl →
      (∃ t, exec (.load dst src) s = .next t ∧ RegisterResult dst (getOperand8 src s) s t ∧ t.regs.f = s.regs.f) ∧
      (∃ t, exec (.loadImm dst n) s = .next t ∧ RegisterResult dst n s t ∧ t.regs.f = s.regs.f)) ∧
    (src ≠ .atHl → ∃ t, exec (.load .atHl src) s = .next t ∧ StoreResult s.regs.hl (getOperand8 src s) s t) ∧
    (∃ t, exec (.loadImm .atHl n) s = .next t ∧ StoreResult s.regs.hl n s t) ∧
    s.regs.hl.toNat = s.regs.h.toNat * 256 + s.regs.l.toNat

/-- R186 to R199: the loads of `A` from memory and the stores of `A` to memory; the forms with `HL+` and `HL-` step `HL`
after the access. -/
def Obligations.LoadsAndStoresOfA : Prop :=
  ∀ (n : Byte) (nn : Word) (s : State),
    (∃ t, exec .ldAAtBc s = .next t ∧ RegisterResult .a (busRead s (wordOf s.regs.c s.regs.b)) s t ∧
      t.regs.f = s.regs.f) ∧
    (∃ t, exec .ldAAtDe s = .next t ∧ RegisterResult .a (busRead s (wordOf s.regs.e s.regs.d)) s t ∧
      t.regs.f = s.regs.f) ∧
    (∃ t, exec (.ldAAtA16 nn) s = .next t ∧ RegisterResult .a (busRead s nn) s t ∧ t.regs.f = s.regs.f) ∧
    (∃ t, exec (.ldhAAtA8 n) s = .next t ∧
      RegisterResult .a (busRead s (BitVec.ofNat 16 (0xFF00 + n.toNat))) s t ∧ t.regs.f = s.regs.f) ∧
    (∃ t, exec .ldhAAtC s = .next t ∧
      RegisterResult .a (busRead s (BitVec.ofNat 16 (0xFF00 + s.regs.c.toNat))) s t ∧ t.regs.f = s.regs.f) ∧
    (∃ t, exec .ldAAtHlInc s = .next t ∧ OnlyRegs s t ∧ t.regs.a = busRead s s.regs.hl ∧
      t.regs.hl = s.regs.hl + 1 ∧ Keeps8 [.a, .h, .l] s t ∧ t.regs.f = s.regs.f ∧ KeepsPointers s t) ∧
    (∃ t, exec .ldAAtHlDec s = .next t ∧ OnlyRegs s t ∧ t.regs.a = busRead s s.regs.hl ∧
      t.regs.hl = s.regs.hl - 1 ∧ Keeps8 [.a, .h, .l] s t ∧ t.regs.f = s.regs.f ∧ KeepsPointers s t) ∧
    (∃ t, exec .ldAtBcA s = .next t ∧ StoreResult (wordOf s.regs.c s.regs.b) s.regs.a s t) ∧
    (∃ t, exec .ldAtDeA s = .next t ∧ StoreResult (wordOf s.regs.e s.regs.d) s.regs.a s t) ∧
    (∃ t, exec (.ldAtA16A nn) s = .next t ∧ StoreResult nn s.regs.a s t) ∧
    (∃ t, exec (.ldhAtA8A n) s = .next t ∧ StoreResult (BitVec.ofNat 16 (0xFF00 + n.toNat)) s.regs.a s t) ∧
    (∃ t, exec .ldhAtCA s = .next t ∧ StoreResult (BitVec.ofNat 16 (0xFF00 + s.regs.c.toNat)) s.regs.a s t) ∧
    (∃ u t, exec .ldAtHlIncA s = .next t ∧ StoreResult s.regs.hl s.regs.a s u ∧ OnlyRegs u t ∧
      t.regs.hl = s.regs.hl + 1 ∧ Keeps8 [.h, .l] s t ∧ t.regs.f = s.regs.f ∧ KeepsPointers s t) ∧
    (∃ u t, exec .ldAtHlDecA s = .next t ∧ StoreResult s.regs.hl s.regs.a s u ∧ OnlyRegs u t ∧
      t.regs.hl = s.regs.hl - 1 ∧ Keeps8 [.h, .l] s t ∧ t.regs.f = s.regs.f ∧ KeepsPointers s t)

/-- R20, R221 to R224, R272: a pair gets the immediate, high byte in its first register; `SP` gets `HL`; `SP` is stored
low byte first at `a16` and the byte after it; `LD HL,SP+e8` and `ADD SP,e8` add the signed displacement: Z and N are
cleared, H and C are the carries out of bits 3 and 7 of the unsigned addition of the low bytes. -/
def Obligations.LoadsOfPairsAndSp : Prop :=
  ∀ (e : Byte) (nn : Word) (s : State),
    let f : Flags :=
      { z := false, n := false, h := decide (15 < s.regs.sp.toNat % 16 + e.toNat % 16)
        c := decide (255 < s.regs.sp.toNat % 256 + e.toNat) }
    let sum : Word := BitVec.ofInt 16 (s.regs.sp.toNat + e.toInt)
    (∀ p, ∃ t, exec (.loadPair p nn) s = .next t ∧ getPair p t = nn ∧ OnlyRegs s t ∧ t.regs.f = s.regs.f ∧
      t.regs.pc = s.regs.pc ∧ ∀ q, q ≠ p → getPair q t = getPair q s) ∧
    (∀ p, ∃ t, exec (.loadPair p nn) s = .next t ∧ t.regs.a = s.regs.a) ∧
    (∃ t, exec .ldSpHl s = .next t ∧ t = { s with regs := { s.regs with sp := wordOf s.regs.l s.regs.h } }) ∧
    (∃ u t, exec (.ldAtA16Sp nn) s = .next t ∧ StoreResult nn (lowByte s.regs.sp) s u ∧
      StoreResult (nn + 1) (highByte s.regs.sp) u t) ∧
    (∃ t, exec (.ldHlSpE8 e) s = .next t ∧ OnlyRegs s t ∧ t.regs.hl = sum ∧ t.regs.f = f ∧ Keeps8 [.h, .l] s t ∧
      KeepsPointers s t) ∧
    (∃ t, exec (.addSpE8 e) s = .next t ∧ OnlyRegs s t ∧ t.regs.sp = sum ∧ t.regs.f = f ∧ Keeps8 [] s t ∧
      t.regs.pc = s.regs.pc)

/-- R11, R22, R225, R226: PUSH stores the high byte at `SP - 1`, the low byte at `SP - 2`, and `SP` goes down by 2; `F`
is pushed with bits 3:0 zero. POP takes the low byte at `SP` and the high byte at `SP + 1`, and `SP` goes up by 2; POP
AF sets the four flags from bits 7 to 4 of the low byte, and no other pop changes a flag. -/
def Obligations.PushAndPop : Prop :=
  ∀ s : State,
    let lo := busRead s s.regs.sp
    let hi := busRead s (s.regs.sp + 1)
    let f : Flags := { z := lo.getLsbD 7, n := lo.getLsbD 6, h := lo.getLsbD 5, c := lo.getLsbD 4 }
    (∃ t, exec .pushBc s = .next t ∧ PushResult (wordOf s.regs.c s.regs.b) s t) ∧
    (∃ t, exec .pushDe s = .next t ∧ PushResult (wordOf s.regs.e s.regs.d) s t) ∧
    (∃ t, exec .pushHl s = .next t ∧ PushResult (wordOf s.regs.l s.regs.h) s t) ∧
    (∃ t, exec .pushAf s = .next t ∧ PushResult (wordOf s.regs.f.toByte s.regs.a) s t) ∧
    s.regs.f.toByte.toNat = s.regs.f.z.toNat * 128 + s.regs.f.n.toNat * 64 + s.regs.f.h.toNat * 32 +
      s.regs.f.c.toNat * 16 ∧
    exec .popBc s = .next { s with regs := { s.regs with b := hi, c := lo, sp := s.regs.sp + 2 } } ∧
    exec .popDe s = .next { s with regs := { s.regs with d := hi, e := lo, sp := s.regs.sp + 2 } } ∧
    exec .popHl s = .next { s with regs := { s.regs with h := hi, l := lo, sp := s.regs.sp + 2 } } ∧
    exec .popAf s = .next { s with regs := { s.regs with a := hi, f := f, sp := s.regs.sp + 2 } }

/-! ## 8-bit arithmetic and logic -/

/-- R241, R242: ADD and ADC, in every form: the sum modulo 256, H and C the carries out of bits 3 and 7, Z from the
result, N cleared. -/
def Obligations.AddAndAdc : Prop :=
  ∀ (x : Byte) (s : State) (i j : Instr),
    ((i = .aluImm .add x ∧ j = .aluImm .adc x) ∨
      ∃ src, x = getOperand8 src s ∧ i = .alu .add src ∧ j = .alu .adc src) →
    let a := s.regs.a.toNat
    let c := s.regs.f.c.toNat
    (∃ t, exec i s = .next t ∧
      AccResult ((a + x.toNat) % 256)
        { z := decide ((a + x.toNat) % 256 = 0), n := false, h := decide (15 < a % 16 + x.toNat % 16)
          c := decide (255 < a + x.toNat) } s t) ∧
    (∃ t, exec j s = .next t ∧
      AccResult ((a + x.toNat + c) % 256)
        { z := decide ((a + x.toNat + c) % 256 = 0), n := false, h := decide (15 < a % 16 + x.toNat % 16 + c)
          c := decide (255 < a + x.toNat + c) } s t)

/-- R243, R244, R248: SUB and SBC, in every form: the difference modulo 256, H and C the borrows, Z from the result, N
set; CP sets the flags of SUB and keeps `A`. -/
def Obligations.SubSbcAndCp : Prop :=
  ∀ (x : Byte) (s : State) (i j k : Instr),
    ((i = .aluImm .sub x ∧ j = .aluImm .sbc x ∧ k = .aluImm .cp x) ∨
      ∃ src, x = getOperand8 src s ∧ i = .alu .sub src ∧ j = .alu .sbc src ∧ k = .alu .cp src) →
    let a := s.regs.a.toNat
    let c := s.regs.f.c.toNat
    let f : Flags :=
      { z := decide ((a + 256 - x.toNat) % 256 = 0), n := true, h := decide (a % 16 < x.toNat % 16)
        c := decide (a < x.toNat) }
    (∃ t, exec i s = .next t ∧ AccResult ((a + 256 - x.toNat) % 256) f s t) ∧
    (∃ t, exec j s = .next t ∧
      AccResult ((a + 512 - x.toNat - c) % 256)
        { z := decide ((a + 512 - x.toNat - c) % 256 = 0), n := true, h := decide (a % 16 < x.toNat % 16 + c)
          c := decide (a < x.toNat + c) } s t) ∧
    (∃ t, exec k s = .next t ∧ FlagsResult f s t)

/-- R245, R246, R247: AND, XOR and OR, in every form, bit by bit; Z from the result, N and C cleared, H set by AND only.
-/
def Obligations.BitwiseLogic : Prop :=
  ∀ (x : Byte) (s : State) (i j k : Instr),
    ((i = .aluImm .and x ∧ j = .aluImm .xor x ∧ k = .aluImm .or x) ∨
      ∃ src, x = getOperand8 src s ∧ i = .alu .and src ∧ j = .alu .xor src ∧ k = .alu .or src) →
    (∃ t, exec i s = .next t ∧
      AccResult t.regs.a.toNat { z := decide (t.regs.a = 0), n := false, h := true, c := false } s t ∧
      ∀ b < 8, t.regs.a.getLsbD b = (s.regs.a.getLsbD b && x.getLsbD b)) ∧
    (∃ t, exec j s = .next t ∧
      AccResult t.regs.a.toNat { z := decide (t.regs.a = 0), n := false, h := false, c := false } s t ∧
      ∀ b < 8, t.regs.a.getLsbD b = (s.regs.a.getLsbD b != x.getLsbD b)) ∧
    (∃ t, exec k s = .next t ∧
      AccResult t.regs.a.toNat { z := decide (t.regs.a = 0), n := false, h := false, c := false } s t ∧
      ∀ b < 8, t.regs.a.getLsbD b = (s.regs.a.getLsbD b || x.getLsbD b))

/-- R249 to R252: INC and DEC of a byte, in a register or at `HL`; the carry flag is kept, H says that the low nibble
wrapped. At `HL` the flags come from the byte read, and the new byte is stored. -/
def Obligations.IncrementAndDecrementByte : Prop :=
  ∀ (x : Operand8) (s : State),
    let v := (getOperand8 x s).toNat
    let fi : Flags :=
      { z := decide ((v + 1) % 256 = 0), n := false, h := decide (v % 16 = 15), c := s.regs.f.c }
    let fd : Flags :=
      { z := decide ((v + 255) % 256 = 0), n := true, h := decide (v % 16 = 0), c := s.regs.f.c }
    (x ≠ .atHl →
      (∃ t, exec (.inc8 x) s = .next t ∧ RegisterResult x (BitVec.ofNat 8 (v + 1)) s t ∧ t.regs.f = fi) ∧
      (∃ t, exec (.dec8 x) s = .next t ∧ RegisterResult x (BitVec.ofNat 8 (v + 255)) s t ∧ t.regs.f = fd)) ∧
    (x = .atHl →
      (∃ u t, exec (.inc8 x) s = .next t ∧ StoreResult s.regs.hl (BitVec.ofNat 8 (v + 1)) s u ∧ FlagsResult fi u t) ∧
      (∃ u t, exec (.dec8 x) s = .next t ∧ StoreResult s.regs.hl (BitVec.ofNat 8 (v + 255)) s u ∧
        FlagsResult fd u t))

/-- R253 to R256: DAA adjusts `A` by 0x06 and 0x60 as H, C and, after an addition, the digits of `A` say; N is kept, H
cleared, C set by a high adjustment after an addition and otherwise kept. CPL complements every bit of `A`; SCF sets and
CCF complements the carry flag; the other flags as the rules say. -/
def Obligations.AdjustAndComplement : Prop :=
  ∀ s : State,
    let a := s.regs.a.toNat
    let f := s.regs.f
    let low := if f.h = true ∨ (f.n = false ∧ 9 < a % 16) then 6 else 0
    let high := if f.c = true ∨ (f.n = false ∧ 0x99 < a) then 0x60 else 0
    let r := if f.n then (a + 256 - low - high) % 256 else (a + low + high) % 256
    (∃ t, exec .daa s = .next t ∧
      AccResult r { z := decide (r = 0), n := f.n, h := false, c := f.c || (!f.n && decide (0x99 < a)) } s t) ∧
    (∃ t, exec .cpl s = .next t ∧ AccResult (255 - a) { f with n := true, h := true } s t) ∧
    (∃ t, exec .scf s = .next t ∧ FlagsResult { z := f.z, n := false, h := false, c := true } s t) ∧
    (∃ t, exec .ccf s = .next t ∧ FlagsResult { z := f.z, n := false, h := false, c := !f.c } s t)

/-- R241 to R244, R253: ADD or ADC of two packed decimal numbers, in every form, followed by DAA leaves their decimal
sum modulo 100, the carry-in of ADC counted, with C its hundreds; SUB or SBC followed by DAA leaves their decimal
difference modulo 100, the borrow-in of SBC counted, with C the borrow. -/
def Obligations.DecimalArithmetic : Prop :=
  ∀ (t1 u1 t2 u2 : Nat) (s : State) (add adc sub sbc : Instr), t1 ≤ 9 → u1 ≤ 9 → t2 ≤ 9 → u2 ≤ 9 →
    s.regs.a = BitVec.ofNat 8 (16 * t1 + u1) →
    let x : Byte := BitVec.ofNat 8 (16 * t2 + u2)
    ((add = .aluImm .add x ∧ adc = .aluImm .adc x ∧ sub = .aluImm .sub x ∧ sbc = .aluImm .sbc x) ∨
      ∃ src, getOperand8 src s = x ∧ add = .alu .add src ∧ adc = .alu .adc src ∧ sub = .alu .sub src ∧
        sbc = .alu .sbc src) →
    let p := 10 * t1 + u1
    let q := 10 * t2 + u2
    let c := s.regs.f.c.toNat
    let leaves := fun (i : Instr) (n : Nat) (carry : Bool) =>
      ∃ m t, exec i s = .next m ∧ exec .daa m = .next t ∧ t.regs.a.toNat = 16 * (n / 10 % 10) + n % 10 ∧
        t.regs.f.c = carry
    leaves add (p + q) (decide (100 ≤ p + q)) ∧ leaves adc (p + q + c) (decide (100 ≤ p + q + c)) ∧
      leaves sub (p + 100 - q) (decide (p < q)) ∧ leaves sbc (p + 100 - q - c) (decide (p < q + c))

/-! ## 16-bit arithmetic -/

/-- R271, R273, R274: `ADD HL,rr` with the carries out of bits 11 and 15 and Z kept; INC and DEC of a pair modulo 65536
with no flag changed. -/
def Obligations.PairArithmetic : Prop :=
  ∀ (p : Pair) (s : State),
    let hl := s.regs.hl.toNat
    let v := (getPair p s).toNat
    (∃ t, exec (.addHl p) s = .next t ∧ OnlyRegs s t ∧ t.regs.hl.toNat = (hl + v) % 65536 ∧
      t.regs.f = { z := s.regs.f.z, n := false, h := decide (0xFFF < hl % 4096 + v % 4096)
                   c := decide (0xFFFF < hl + v) } ∧
      Keeps8 [.h, .l] s t ∧ KeepsPointers s t) ∧
    (∃ t, exec (.incPair p) s = .next t ∧ OnlyRegs s t ∧ (getPair p t).toNat = (v + 1) % 65536 ∧
      t.regs.a = s.regs.a ∧ t.regs.f = s.regs.f ∧ t.regs.pc = s.regs.pc ∧ ∀ q, q ≠ p → getPair q t = getPair q s) ∧
    (∃ t, exec (.decPair p) s = .next t ∧ OnlyRegs s t ∧ (getPair p t).toNat = (v + 65535) % 65536 ∧
      t.regs.a = s.regs.a ∧ t.regs.f = s.regs.f ∧ t.regs.pc = s.regs.pc ∧ ∀ q, q ≠ p → getPair q t = getPair q s)

/-! ## Rotates, shifts and bits -/

/-- R280 to R292: the rotates of `A` put the bit shifted out in C and clear the other flags, Z included; the rotates,
shifts and SWAP of the CB page, on a register or the byte at `HL`, set Z from the result and C to the bit shifted out,
and clear N and H. -/
def Obligations.RotatesAndShifts : Prop :=
  (∀ (o : RotOp) (i : Instr) (s : State),
    ((o = .rlc ∧ i = .rlca) ∨ (o = .rrc ∧ i = .rrca) ∨ (o = .rl ∧ i = .rla) ∨ (o = .rr ∧ i = .rra)) →
    ∃ t, exec i s = .next t ∧ IsRotated o s.regs.a s.regs.f.c t.regs.a ∧
      AccResult t.regs.a.toNat { z := false, n := false, h := false, c := shiftedOut o s.regs.a } s t) ∧
  ∀ (o : RotOp) (x : Operand8) (s : State),
    let v := getOperand8 x s
    ∃ w, IsRotated o v s.regs.f.c w ∧
      let f : Flags := { z := decide (w = 0), n := false, h := false, c := shiftedOut o v }
      (x ≠ .atHl → ∃ t, exec (.rot o x) s = .next t ∧ RegisterResult x w s t ∧ t.regs.f = f) ∧
      (x = .atHl → ∃ u t, exec (.rot o x) s = .next t ∧ StoreResult s.regs.hl w s u ∧ FlagsResult f u t)

/-- R293, R294, R295: BIT sets Z to the complement of the bit, clears N, sets H, keeps C and writes nothing back; RES
and SET change that one bit and no flag. -/
def Obligations.BitResAndSet : Prop :=
  ∀ (k : BitNo) (x : Operand8) (s : State),
    let v := getOperand8 x s
    (∃ t, exec (.bit k x) s = .next t ∧
      FlagsResult { z := !v.getLsbD k.toNat, n := false, h := true, c := s.regs.f.c } s t) ∧
    ∃ r w : Byte, (∀ i < 8, r.getLsbD i = (v.getLsbD i && decide (i ≠ k.toNat))) ∧
      (∀ i < 8, w.getLsbD i = (v.getLsbD i || decide (i = k.toNat))) ∧
      (x ≠ .atHl →
        (∃ t, exec (.res k x) s = .next t ∧ RegisterResult x r s t ∧ t.regs.f = s.regs.f) ∧
        (∃ t, exec (.set k x) s = .next t ∧ RegisterResult x w s t ∧ t.regs.f = s.regs.f)) ∧
      (x = .atHl →
        (∃ t, exec (.res k x) s = .next t ∧ StoreResult s.regs.hl r s t) ∧
        (∃ t, exec (.set k x) s = .next t ∧ StoreResult s.regs.hl w s t))

/-! ## Control transfers -/

/-- R11, R311 to R319, R322, R325: jumps change `pc` and nothing else: to the address, to `HL`, or by the signed
displacement modulo 65536. A call or restart pushes `pc` and goes to its target. A return takes `pc` from the stack, low
byte first, and `SP` goes up by 2; RETI also sets `IME` and clears `ime_pending`, or sets `ime_pending` under
`RETI_DELAYED`, as its pseudocode says (log 24); nothing else is restored. A conditional transfer whose condition fails
changes nothing; the conditions nz, z, nc, c are that Z is 0, Z is 1, C is 0, C is 1. -/
def Obligations.ControlTransfers : Prop :=
  ∀ (cc : Cond) (k : BitNo) (e : Byte) (nn : Word) (s : State),
    let f := s.regs.f
    let goto := fun (a : Word) (p : State) => { p with regs := { p.regs with pc := a } }
    let target : Word := BitVec.ofInt 16 (s.regs.pc.toNat + e.toInt)
    let back : State :=
      { s with
        regs := { s.regs with
          pc := wordOf (busRead s s.regs.sp) (busRead s (s.regs.sp + 1)), sp := s.regs.sp + 2 } }
    (condHolds .nz f = !f.z ∧ condHolds .z f = f.z ∧ condHolds .nc f = !f.c ∧ condHolds .c f = f.c) ∧
    (exec (.jpA16 nn) s = .next (goto nn s) ∧ exec .jpHl s = .next (goto (wordOf s.regs.l s.regs.h) s) ∧
      exec (.jrE8 e) s = .next (goto target s) ∧
      exec (.jpIf cc nn) s = .next (if condHolds cc f then goto nn s else s) ∧
      exec (.jrIf cc e) s = .next (if condHolds cc f then goto target s else s)) ∧
    (∃ p, PushResult s.regs.pc s p ∧
      exec (.callA16 nn) s = .next (goto nn p) ∧
      exec (.callIf cc nn) s = .next (if condHolds cc f then goto nn p else s) ∧
      exec (.rst k) s = .next (goto (BitVec.ofNat 16 (8 * k.toNat)) p)) ∧
    exec .ret s = .next back ∧ exec (.retIf cc) s = .next (if condHolds cc f then back else s) ∧
    (s.params.retiDelayed = false → exec .reti s = .next { back with ime := true, imePending := false }) ∧
    (s.params.retiDelayed = true → exec .reti s = .next { back with imePending := true })

/-- R120, R316 to R319, R322, R325: a call or restart that is taken, with its stack in two bytes of memory, followed at
once by a return that is taken, comes back to the byte after the call with `SP` as it was and nothing else of the CPU
changed, but that RETI enables interrupts, or leaves that pending under `RETI_DELAYED` (log 24). -/
def Obligations.CallThenReturn : Prop :=
  ∀ (i j : Instr) (s m t : State), MemoryInv s → isStorable s (s.regs.sp - 1) = true →
    isStorable s (s.regs.sp - 2) = true → cellOf s (s.regs.sp - 1) ≠ cellOf s (s.regs.sp - 2) →
    ((∃ nn, i = .callA16 nn) ∨ (∃ cc nn, condHolds cc s.regs.f = true ∧ i = .callIf cc nn) ∨ ∃ k, i = .rst k) →
    (j = .ret ∨ (∃ cc, condHolds cc s.regs.f = true ∧ j = .retIf cc) ∨ j = .reti) →
    exec i s = .next m → exec j m = .next t →
    t.regs = s.regs ∧ KeepsControl s { t with ime := s.ime, imePending := s.imePending } ∧
      (j ≠ .reti → t.ime = s.ime ∧ t.imePending = s.imePending) ∧
      (j = .reti → s.params.retiDelayed = false → t.ime = true ∧ t.imePending = false) ∧
      (j = .reti → s.params.retiDelayed = true → t.ime = s.ime ∧ t.imePending = true)

/-! ## CPU control -/

/-- R330, R332, R334, R336, R337, R338: NOP does nothing; STOP enters `Stopped`; DI clears `IME` and cancels a pending
EI; EI only marks itself pending. HALT directly after EI with an enabled request pending sets the halt quirk and stays
running; so does, under `HALT_BUG_CLASSIC`, HALT with `IME` clear and an enabled request pending; in every other case
HALT enters `Halted`. Executing the prefix byte alone (a constructor of the model's choice, log 16) fetches the next
byte and executes its entry of the CB page, as the two-byte instruction does. -/
def Obligations.CpuControl : Prop :=
  ∀ (pad : Byte) (s : State),
    let pending := ∃ n < 5, (s.ie.getLsbD n && s.iflag.getLsbD n) = true
    let quirk := pending ∧ (s.imePending = true ∨ (s.params.haltBugClassic = true ∧ s.ime = false))
    exec .nop s = .next s ∧ exec (.stop pad) s = .next { s with cpuState := .stopped } ∧
      exec .di s = .next { s with ime := false, imePending := false } ∧
      exec .ei s = .next { s with imePending := true } ∧
      (quirk → exec .halt s = .next { s with haltBug := true }) ∧
      (¬quirk → exec .halt s = .next { s with cpuState := .halted }) ∧
      ∃ t, exec .prefixCb s = .next t ∧
        exec (decodeCb (busRead s s.regs.pc)) { s with regs := { s.regs with pc := s.regs.pc + 1 } } = .next t

/-- R146, R340, R371: an illegal opcode puts the machine in `Faulted` with the opcode and its address; no register, flag
or memory changes. In a step, `pc` is left after the opcode byte and the clock does not advance; `u` is the machine that
fetches. Under the halt quirk the fetch leaves `pc` at the opcode byte and the recorded address is `pc - 1`, one below
it: R145 and R340 taken by their formula, against the prose of R146 and R370 (the model's choice, log 23). -/
def Obligations.IllegalOpcodeFaults : Prop :=
  ∀ (op : Byte) (s : State), (Instr.illegal op).wellFormed = true →
    let u := wake (runDma (takeHostInput s))
    exec (.illegal op) s = .next { s with cpuState := .faulted (.illegalOpcode op (s.regs.pc - 1)) } ∧
    (u.cpuState = .running → interruptDue u = false → busRead u u.regs.pc = op →
      (u.haltBug = false →
        step s = .next
          { u with
            cpuState := .faulted (.illegalOpcode op u.regs.pc)
            regs := { u.regs with pc := u.regs.pc + 1 } }) ∧
      (u.haltBug = true →
        step s = .next { u with cpuState := .faulted (.illegalOpcode op (u.regs.pc - 1)), haltBug := false }))

/-- R47: the flags are written only by the instructions of R47's table: every load but POP AF and `LD HL,SP+e8`, INC and
DEC of a pair, RES, SET, every control transfer and NOP, HALT, STOP, DI, EI leave them alone. -/
def Obligations.FlagsKeptElsewhere : Prop :=
  ∀ (i : Instr) (s t : State), exec i s = .next t →
    ((∃ dst src, i = .load dst src) ∨ (∃ dst n, i = .loadImm dst n) ∨ (∃ p, i = .storeA p) ∨ (∃ p, i = .loadA p) ∨
      (∃ n, i = .ldhAtA8A n ∨ i = .ldhAAtA8 n) ∨ i = .ldhAtCA ∨ i = .ldhAAtC ∨
      (∃ nn, i = .ldAtA16A nn ∨ i = .ldAAtA16 nn ∨ i = .ldAtA16Sp nn) ∨ i = .ldSpHl ∨
      (∃ p nn, i = .loadPair p nn) ∨ (∃ p, i = .push p) ∨ i = .popBc ∨ i = .popDe ∨ i = .popHl ∨
      (∃ p, i = .incPair p ∨ i = .decPair p) ∨ (∃ k x, i = .res k x ∨ i = .set k x) ∨
      (∃ nn, i = .jpA16 nn ∨ i = .callA16 nn) ∨ (∃ cc nn, i = .jpIf cc nn ∨ i = .callIf cc nn) ∨ i = .jpHl ∨
      (∃ dist, i = .jrE8 dist) ∨ (∃ cc dist, i = .jrIf cc dist) ∨ i = .ret ∨ (∃ cc, i = .retIf cc) ∨ i = .reti ∨
      (∃ k, i = .rst k) ∨ i = .nop ∨ i = .halt ∨ (∃ n, i = .stop n) ∨ i = .di ∨ i = .ei) →
    t.regs.f = s.regs.f

/-! ## Timer -/

/-- R402, R403, R405, R406: one timer step: a deferred reload first, with its interrupt request; then `DIV` up by 4;
then `TIMA` counts if the selected tap bit fell while the timer is enabled, and defers a reload when it overflows. -/
def Obligations.TimerStepEffect : Prop :=
  ∀ s : State,
    let t := s.timer
    let u := (timerStep s).timer
    let tima := if t.overflow then t.tma else t.tima
    let tap := match t.tac.toNat % 4 with | 0 => 9 | 1 => 3 | 2 => 5 | _ => 7
    let edge := t.tac.getLsbD 2 && t.divLast.getLsbD tap && !(t.div + 4).getLsbD tap
    timerStep s = { s with timer := u, iflag := (timerStep s).iflag } ∧
      (∀ n < 5, (timerStep s).iflag.getLsbD n = (s.iflag.getLsbD n || (decide (n = 2) && t.overflow))) ∧
      u.div = t.div + 4 ∧ u.divLast = t.div + 4 ∧ u.tma = t.tma ∧ u.tac = t.tac ∧
      u.tima.toNat = (tima.toNat + edge.toNat) % 256 ∧ u.overflow = (edge && decide (tima = 0xFF))

/-- R414, R401: from `DIV = 0`, `TIMA = 0`, `TAC = 0b101` (enabled, tap bit 3), after `k` machine cycles `TIMA` is `k`
divided by 4, until it would overflow. -/
def Obligations.TimerCountsTapEdges : Prop :=
  ∀ (k : Nat) (t : Timer), k < 1024 → t.div = 0 → t.divLast = 0 → t.tima = 0 → t.tac = 0b101 → t.overflow = false →
    (iterate timerTick k t).tima.toNat = k / 4 ∧ (iterate timerTick k t).div.toNat = 4 * k

/-- R404, R408 to R412, R36 to R39: loads and stores of the timer registers. A store to `DIV` resets it and evaluates
the edge at once; a store to `TIMA` in the overflow window cancels the reload only under its parameter. -/
def Obligations.TimerRegisters : Prop :=
  ∀ (v : Byte) (s : State),
    let t := s.timer
    let tap := match t.tac.toNat % 4 with | 0 => 9 | 1 => 3 | 2 => 5 | _ => 7
    let edge := t.tac.getLsbD 2 && t.divLast.getLsbD tap
    (busRead s 0xFF04).toNat = t.div.toNat / 256 ∧ busRead s 0xFF05 = t.tima ∧ busRead s 0xFF06 = t.tma ∧
      (busRead s 0xFF07).toNat = 0xF8 + t.tac.toNat ∧
      busWrite 0xFF04 v s =
        { s with
          timer := { t with
            div := 0, divLast := 0, tima := BitVec.ofNat 8 (t.tima.toNat + edge.toNat)
            overflow := (edge && decide (t.tima = 0xFF)) || t.overflow } } ∧
      busWrite 0xFF05 v s =
        { s with
          timer := { t with
            tima := v, overflow := if s.params.timaWriteCancelsReload then false else t.overflow } } ∧
      busWrite 0xFF06 v s = { s with timer := { t with tma := v } } ∧
      busWrite 0xFF07 v s = { s with timer := { t with tac := BitVec.ofNat 3 v.toNat } }

/-- R411: a load from 0xFF06 returns `TMA`; a store does `TMA <- v` and nothing else, in the overflow window too; the
next reload takes it. -/
def Obligations.TimerModulo : Prop :=
  ∀ (v : Byte) (s : State),
    busRead s 0xFF06 = s.timer.tma ∧ busWrite 0xFF06 v s = { s with timer := { s.timer with tma := v } } ∧
      (s.timer.overflow = true → (timerReload (busWrite 0xFF06 v s).timer).tima = v)

/-! ## PPU -/

/-- R431, R432, R434, R435, R439, R441: a store to `LCDC`: switching off returns to line 0, mode 0, opens the gates and
clears the pending state; switching on sets the start 244 cycles ahead and withholds the first frame; otherwise only the
byte is stored. `STAT` reads its enables, the coincidence and the mode, `LY` reads the line, `LYC` its byte; a store to
`STAT` or `LYC` re-evaluates the lcd-stat line, and a rise of it requests interrupt 1. -/
def Obligations.LcdControlAndStatus : Prop :=
  ∀ (v : Byte) (s : State),
    let p := s.ppu
    let on := p.lcdc.getLsbD 7
    let number := match p.mode with | .hblank => 0 | .vblank => 1 | .oamScan => 2 | .transfer => 3
    let condition := fun (enables : BitVec 4) (lyc : Byte) =>
      on && ((enables.getLsbD 0 && decide (number = 0)) || (enables.getLsbD 1 && decide (number = 1)) ||
        (enables.getLsbD 2 && decide (number = 2)) || (enables.getLsbD 3 && decide (p.line = lyc.toNat)))
    let stored : BitVec 4 := BitVec.ofNat 4 (v.toNat / 8)
    let request := fun (new : Bool) => if !p.statLine && new then s.iflag ||| 0b00010 else s.iflag
    busRead s 0xFF40 = p.lcdc ∧
      busWrite 0xFF40 v s =
        { s with
          ppu :=
            if p.lcdc.getLsbD 7 = true ∧ v.getLsbD 7 = false then
              { p with lcdc := v, line := 0, mode := .hblank, vramAccess := true, oamAccess := true, statLine := false
                       swallowFrame := false }
            else if p.lcdc.getLsbD 7 = false ∧ v.getLsbD 7 = true then
              { p with lcdc := v, displayEnableTime := s.cpuClock + 244, swallowFrame := true, line := 0
                       mode := .hblank }
            else { p with lcdc := v } } ∧
      (busRead s 0xFF41).toNat =
        128 + 8 * p.statEnables.toNat + 4 * (on && decide (p.line = p.lyc.toNat)).toNat + number ∧
      (p.line < 256 → (busRead s 0xFF44).toNat = p.line) ∧ busWrite 0xFF44 v s = s ∧
      busRead s 0xFF45 = p.lyc ∧
      busWrite 0xFF41 v s =
        { s with
          ppu := { p with statEnables := stored, statLine := condition stored p.lyc }
          iflag := request (condition stored p.lyc) } ∧
      busWrite 0xFF45 v s =
        { s with
          ppu := { p with lyc := v, statLine := condition p.statEnables v }
          iflag := request (condition p.statEnables v) }

/-- R436 to R441, R446: a PPU step goes to the line and mode that the schedule gives, and does nothing while they stay,
the display is off or it is starting. Where it does, the gates are those of the mode; entering line 144 requests the
vblank interrupt, whatever `STAT` enables, and publishes the frame, or, for the first frame after switching on,
withholds it; a rise of the lcd-stat line requests interrupt 1; only the line, the mode, the gates, the lcd-stat line
and the frames of the PPU may differ. -/
def Obligations.PpuStepEffect : Prop :=
  ∀ s : State,
    let p := s.ppu
    let t := ppuStep s
    let dc := s.cpuClock - p.displayEnableTime
    let line := dc % 70224 / 456
    let x := dc % 70224 % 456
    let mode : PpuMode :=
      if 144 ≤ line then .vblank
      else if x < 80 then .oamScan
      else if x < 80 + s.params.mode3Len then .transfer
      else .hblank
    let moves := p.lcdc.getLsbD 7 = true ∧ p.displayEnableTime ≤ s.cpuClock ∧ ¬(p.line = line ∧ p.mode = mode)
    let enters := mode = .vblank ∧ line = 144
    let raised :=
      (p.statEnables.getLsbD 0 && decide (mode = .hblank)) || (p.statEnables.getLsbD 1 && decide (mode = .vblank)) ||
        (p.statEnables.getLsbD 2 && decide (mode = .oamScan)) ||
        (p.statEnables.getLsbD 3 && decide (line = p.lyc.toNat))
    (¬moves → t = s) ∧
    (moves →
      t = { s with
            iflag := t.iflag
            ppu := { p with
              line := line, mode := mode, vramAccess := decide (mode ≠ .transfer)
              oamAccess := decide (mode = .hblank ∨ mode = .vblank), statLine := raised
              swallowFrame := t.ppu.swallowFrame, frame := t.ppu.frame, published := t.ppu.published
              framesPublished := t.ppu.framesPublished } } ∧
        (∀ n < 5, t.iflag.getLsbD n =
          (s.iflag.getLsbD n || (decide (n = 0) && decide enters) || (decide (n = 1) && !p.statLine && raised))) ∧
        (enters → p.swallowFrame = true →
          t.ppu.swallowFrame = false ∧ t.ppu.published = p.published ∧ t.ppu.framesPublished = p.framesPublished) ∧
        (enters → p.swallowFrame = false →
          t.ppu.swallowFrame = false ∧ t.ppu.published = some p.frame ∧
            t.ppu.framesPublished = p.framesPublished + 1) ∧
        (¬enters → t.ppu.swallowFrame = p.swallowFrame ∧ t.ppu.published = p.published ∧
          t.ppu.framesPublished = p.framesPublished) ∧
        (mode = .hblank ∨ mode = .oamScan → t.ppu.frame = p.frame))

/-- R450 to R453: the PPU step that enters mode 3 draws the line, 160 pixels, from the registers, `VRAM` and `OAM` of
that moment, and no other row of the frame. A pixel is the shade of the visible sprite that paints there and that no
other such sprite beats; where none paints, the shade of the window or background colour. -/
def Obligations.RenderedLine : Prop :=
  ∀ (s : State) (ly : Nat), (ppuStep s).ppu.mode = .transfer → (ppuStep s).ppu.line = ly →
    ¬(s.ppu.mode = .transfer ∧ s.ppu.line = ly) →
    (∀ k, k ≠ ly → frameRow (ppuStep s).ppu.frame k = frameRow s.ppu.frame k) ∧
    ∃ row, frameRow (ppuStep s).ppu.frame ly = some row ∧ row.length = 160 ∧
      ∀ x < 160, ∃ shade : Shade, row[x]? = some shade ∧
        ((∀ i, ¬(VisibleSprite s ly i ∧ PaintsPixel s ly i x)) →
          shade.toNat = paletteShade s.ppu.bgp (underColour s ly x)) ∧
        ∀ i, VisibleSprite s ly i → PaintsPixel s ly i x →
          (∀ j, VisibleSprite s ly j → PaintsPixel s ly j x → ¬BeatsSprite s j i) →
          shade.toNat = paintedShade s ly i x

/-! ## APU, cartridge, joypad -/

/-- R481, R482, R483, R486, R489: loads and stores of the sound registers. A load gives the stored byte with its
unreadable bits set. While the APU is off it gives those bits alone, and a store is ignored. While it is on, a store
stores the byte; it loads the length counter, switches a channel off with its DAC, or, in `NRn4` without the trigger
bit, does nothing more. `NR52` reads the power bit and the enabled channels; a store that clears bit 7 clears every
register and channel (the duty in use too: the model's choice, log 22) but not wave RAM, one that sets it restarts the
frame sequencer. -/
def Obligations.SoundRegisters : Prop :=
  ∀ (v : Byte) (s : State),
    let a := s.apu
    let g := a.regs
    let store := fun (addr : Word) (b : Apu) => busWrite addr v s = { s with apu := b }
    let dac := fun (on : Bool) => if v.toNat / 8 = 0 then false else on
    (∀ r ∈ plainSoundRows ++ actingSoundRows,
      busRead s r.address = r.get g ||| r.mask ∧
        (ApuInv s → a.power = false → busRead s r.address = r.mask) ∧
        (a.power = false → busWrite r.address v s = s)) ∧
    (a.power = true → ∀ r ∈ plainSoundRows, store r.address { a with regs := r.put v g }) ∧
    (a.power = true →
      store 0xFF11 { a with regs := { g with nr11 := v }, ch1 := { a.ch1 with len := 64 - v.toNat % 64 } } ∧
      store 0xFF16 { a with regs := { g with nr21 := v }, ch2 := { a.ch2 with len := 64 - v.toNat % 64 } } ∧
      store 0xFF1B { a with regs := { g with nr31 := v }, ch3 := { a.ch3 with len := 256 - v.toNat } } ∧
      store 0xFF20 { a with regs := { g with nr41 := v }, ch4 := { a.ch4 with len := 64 - v.toNat % 64 } } ∧
      store 0xFF12 { a with regs := { g with nr12 := v }, ch1 := { a.ch1 with on := dac a.ch1.on } } ∧
      store 0xFF17 { a with regs := { g with nr22 := v }, ch2 := { a.ch2 with on := dac a.ch2.on } } ∧
      store 0xFF1A { a with regs := { g with nr30 := v }, ch3 := { a.ch3 with on := a.ch3.on && v.getLsbD 7 } } ∧
      store 0xFF21 { a with regs := { g with nr42 := v }, ch4 := { a.ch4 with on := dac a.ch4.on } } ∧
      (v.getLsbD 7 = false →
        store 0xFF14 { a with regs := { g with nr14 := v } } ∧ store 0xFF19 { a with regs := { g with nr24 := v } } ∧
          store 0xFF1E { a with regs := { g with nr34 := v } } ∧
          store 0xFF23 { a with regs := { g with nr44 := v } })) ∧
    (busRead s 0xFF26).toNat =
      128 * a.power.toNat + 0x70 + 8 * (a.ch4.on && decide (g.nr42.toNat / 8 ≠ 0)).toNat +
        4 * (a.ch3.on && g.nr30.getLsbD 7).toNat + 2 * (a.ch2.on && decide (g.nr22.toNat / 8 ≠ 0)).toNat +
        (a.ch1.on && decide (g.nr12.toNat / 8 ≠ 0)).toNat ∧
    (a.power = v.getLsbD 7 → busWrite 0xFF26 v s = s) ∧
    (a.power = false → v.getLsbD 7 = true → store 0xFF26 { a with power := true, seqPos := 0, seqDiv := 0 }) ∧
    (a.power = true → v.getLsbD 7 = false →
      ∃ b, store 0xFF26 b ∧ b.power = false ∧ b.regs = .off ∧ b.ch1 = .off ∧ b.ch2 = .off ∧ b.ch3.on = false ∧
        b.ch3.len = 0 ∧ b.ch3.timer = 0 ∧ b.ch3.pos = 0 ∧ b.ch4.on = false ∧ b.ch4.len = 0 ∧ b.ch4.timer = 0 ∧
        b.ch4.vol = 0 ∧ b.ch4.lfsr = 0x7FFF ∧ b.sweep.timer = 0 ∧ b.sweep.shadow = 0 ∧ b.seqDiv = 0 ∧ b.seqPos = 0 ∧
        b.sampleAcc = 0 ∧ b.capLeft = 0 ∧ b.capRight = 0)

/-- R482, R490, R493: a store to `NRn4` with bit 7 set, while the APU is on, stores the byte without that bit and
triggers the channel: on, its length counter reloaded if it was 0, its timer at its period, its volume, envelope, sweep,
position and shift register loaded; channel 1's overflow check runs at once where the sweep shift is not 0. That a
trigger takes the stored duty into use, as a reload of the timer does, is the model's choice (log 22). -/
def Obligations.ChannelTriggers : Prop :=
  ∀ (v : Byte) (s : State), s.apu.power = true → v.getLsbD 7 = true →
    let a := s.apu
    let g := a.regs
    let w : Byte := BitVec.ofNat 8 (v.toNat % 128)
    let freq := fun low : Byte => v.toNat % 8 * 256 + low.toNat
    let orEight := fun n : Nat => if n = 0 then 8 else n
    let volume := fun nr : Byte => BitVec.ofNat 4 (nr.toNat / 16)
    let duty := fun nr : Byte => BitVec.ofNat 2 (nr.toNat / 64)
    let period := g.nr10.toNat / 16 % 8
    let shift := g.nr10.toNat % 8
    let d := freq g.nr13 / 2 ^ shift
    let f := if g.nr10.getLsbD 3 then freq g.nr13 - d else freq g.nr13 + d
    let noise := if g.nr43.toNat % 8 = 0 then 8 else 16 * (g.nr43.toNat % 8)
    busWrite 0xFF14 v s =
        { s with
          apu := { a with
            regs := { g with nr14 := w }
            ch1 :=
              { on := decide (shift = 0) || decide (f ≤ 2047), len := if a.ch1.len = 0 then 64 else a.ch1.len
                timer := (2048 - freq g.nr13) * 4, vol := volume g.nr12, envTimer := orEight (g.nr12.toNat % 8)
                dutyPos := a.ch1.dutyPos, duty := duty g.nr11 }
            sweep :=
              { timer := orEight period, on := decide (period ≠ 0 ∨ shift ≠ 0)
                shadow := BitVec.ofNat 11 (freq g.nr13) } } } ∧
      busWrite 0xFF19 v s =
        { s with
          apu := { a with
            regs := { g with nr24 := w }
            ch2 :=
              { on := true, len := if a.ch2.len = 0 then 64 else a.ch2.len, timer := (2048 - freq g.nr23) * 4
                vol := volume g.nr22, envTimer := orEight (g.nr22.toNat % 8), dutyPos := a.ch2.dutyPos
                duty := duty g.nr21 } } } ∧
      busWrite 0xFF1E v s =
        { s with
          apu := { a with
            regs := { g with nr34 := w }
            ch3 :=
              { on := true, len := if a.ch3.len = 0 then 256 else a.ch3.len, timer := (2048 - freq g.nr33) * 2
                pos := 0, sample := a.ch3.sample } } } ∧
      busWrite 0xFF23 v s =
        { s with
          apu := { a with
            regs := { g with nr44 := w }
            ch4 :=
              { on := true, len := if a.ch4.len = 0 then 64 else a.ch4.len, timer := noise * 2 ^ (g.nr43.toNat / 16)
                vol := volume g.nr42, envTimer := orEight (g.nr42.toNat % 8), lfsr := 0x7FFF } } }

/-- R487, R491, R492, R493: one tick of the frame sequencer: the length counters on even positions, the sweep on
positions 2 and 6, the envelopes on position 7; then the next position. Nothing else of the APU changes. A sweep or
envelope timer that is 0 stays 0 (DEDUCED, log 14). -/
def Obligations.FrameSequencerTick : Prop :=
  ∀ a : Apu,
    let t := sequencerTick a
    let g := a.regs
    let pos := a.seqPos.toNat
    let counts := fun (nr4 : Byte) (len : Nat) => pos % 2 = 0 ∧ nr4.getLsbD 6 = true ∧ 0 < len
    let length := fun (nr4 : Byte) (len len' : Nat) =>
      (counts nr4 len → len' = len - 1) ∧ (¬counts nr4 len → len' = len)
    let expires := fun (nr4 : Byte) (len : Nat) => counts nr4 len ∧ len = 1
    let envelope := fun (nr2 : Byte) (timer : Nat) (vol : BitVec 4) (timer' : Nat) (vol' : BitVec 4) =>
      (pos = 7 → nr2.toNat % 8 ≠ 0 → timer = 1 →
        timer' = nr2.toNat % 8 ∧
          vol'.toNat = if nr2.getLsbD 3 then min 15 (vol.toNat + 1) else vol.toNat - 1) ∧
      (pos = 7 → nr2.toNat % 8 ≠ 0 → timer ≠ 1 → timer' = timer - 1 ∧ vol' = vol) ∧
      (pos ≠ 7 ∨ nr2.toNat % 8 = 0 → timer' = timer ∧ vol' = vol)
    let sweeps := pos = 2 ∨ pos = 6
    let period := g.nr10.toNat / 16 % 8
    let shift := g.nr10.toNat % 8
    let swept := fun shadow : Nat =>
      if g.nr10.getLsbD 3 then shadow - shadow / 2 ^ shift else shadow + shadow / 2 ^ shift
    let f := swept a.sweep.shadow.toNat
    let runs := sweeps ∧ a.sweep.timer = 1 ∧ a.sweep.on = true ∧ period ≠ 0
    let updates := runs ∧ f ≤ 2047 ∧ shift ≠ 0
    let overflows := runs ∧ (2047 < f ∨ (shift ≠ 0 ∧ 2047 < swept f))
    t = { a with
          seqPos := t.seqPos
          regs := { g with nr13 := t.regs.nr13, nr14 := t.regs.nr14 }
          ch1 := { a.ch1 with on := t.ch1.on, len := t.ch1.len, vol := t.ch1.vol, envTimer := t.ch1.envTimer }
          ch2 := { a.ch2 with on := t.ch2.on, len := t.ch2.len, vol := t.ch2.vol, envTimer := t.ch2.envTimer }
          ch3 := { a.ch3 with on := t.ch3.on, len := t.ch3.len }
          ch4 := { a.ch4 with on := t.ch4.on, len := t.ch4.len, vol := t.ch4.vol, envTimer := t.ch4.envTimer }
          sweep := { a.sweep with timer := t.sweep.timer, shadow := t.sweep.shadow } } ∧
      t.seqPos.toNat = (pos + 1) % 8 ∧
      length g.nr14 a.ch1.len t.ch1.len ∧ length g.nr24 a.ch2.len t.ch2.len ∧
      length g.nr34 a.ch3.len t.ch3.len ∧ length g.nr44 a.ch4.len t.ch4.len ∧
      (t.ch1.on = true ↔ a.ch1.on = true ∧ ¬expires g.nr14 a.ch1.len ∧ ¬overflows) ∧
      (t.ch2.on = true ↔ a.ch2.on = true ∧ ¬expires g.nr24 a.ch2.len) ∧
      (t.ch3.on = true ↔ a.ch3.on = true ∧ ¬expires g.nr34 a.ch3.len) ∧
      (t.ch4.on = true ↔ a.ch4.on = true ∧ ¬expires g.nr44 a.ch4.len) ∧
      envelope g.nr12 a.ch1.envTimer a.ch1.vol t.ch1.envTimer t.ch1.vol ∧
      envelope g.nr22 a.ch2.envTimer a.ch2.vol t.ch2.envTimer t.ch2.vol ∧
      envelope g.nr42 a.ch4.envTimer a.ch4.vol t.ch4.envTimer t.ch4.vol ∧
      (sweeps → a.sweep.timer = 1 → t.sweep.timer = if period = 0 then 8 else period) ∧
      (sweeps → a.sweep.timer ≠ 1 → t.sweep.timer = a.sweep.timer - 1) ∧
      (¬sweeps → t.sweep.timer = a.sweep.timer) ∧
      (updates → t.sweep.shadow.toNat = f ∧ t.regs.nr13.toNat = f % 256 ∧
        t.regs.nr14.toNat = g.nr14.toNat / 8 * 8 + f / 256) ∧
      (¬updates → t.sweep.shadow = a.sweep.shadow ∧ t.regs = g)

/-- R482, R488, R494, R496: one machine cycle of the APU. While it is on, the frame sequencer ticks every 8192 cycles,
and then the timer of each enabled channel goes down by 4 cycles: each time it comes to 0 or below its period is added,
and the channel's generator goes one position on; a pulse channel then also takes the duty stored in `NRn1` into use
(R482; the model's choice, log 22). On or off, the sample clock adds 4 x 44100 and emits a sample for each 4194304 that
it takes off. -/
def Obligations.ApuMachineCycle : Prop :=
  ∀ s : State,
    let a := s.apu
    let b := if a.seqDiv + 4 = 8192 then sequencerTick { a with seqDiv := 0 } else { a with seqDiv := a.seqDiv + 4 }
    let c := if a.power then channelTimers 4 s.waveRam b else a
    let g := b.regs
    let reloads := fun (timer timer' period k : Nat) =>
      timer' + 4 = timer + k * period ∧ 0 < timer' ∧ (k = 0 ∨ timer' ≤ period)
    let freq := fun nr3 nr4 : Byte => nr4.toNat % 8 * 256 + nr3.toNat
    let pulse := fun (nr1 nr2 nr3 nr4 : Byte) (p q : Pulse) =>
      (p.on = true ∧ nr2.toNat / 8 ≠ 0 →
        ∃ k, reloads p.timer q.timer ((2048 - freq nr3 nr4) * 4) k ∧
          q = { p with timer := q.timer, dutyPos := q.dutyPos, duty := q.duty } ∧
          q.dutyPos.toNat = (p.dutyPos.toNat + k) % 8 ∧
          q.duty.toNat = if k = 0 then p.duty.toNat else nr1.toNat / 64) ∧
      (¬(p.on = true ∧ nr2.toNat / 8 ≠ 0) → q = p)
    let noise := if g.nr43.toNat % 8 = 0 then 8 else 16 * (g.nr43.toNat % 8)
    let shiftLfsr := fun l : BitVec 15 =>
      let bit := (l.getLsbD 0 != l.getLsbD 1).toNat
      let m := l.toNat / 2 + bit * 0x4000
      BitVec.ofNat 15 (if g.nr43.getLsbD 3 then m / 128 * 128 + bit * 64 + m % 64 else m)
    (apuStep s).apu =
        iterate emitSample ((a.sampleAcc + 176400) / 4194304)
          { c with sampleAcc := (a.sampleAcc + 176400) % 4194304 } ∧
      apuStep s = { s with apu := (apuStep s).apu } ∧
      (a.power = true →
        c = { b with ch1 := c.ch1, ch2 := c.ch2, ch3 := c.ch3, ch4 := c.ch4 } ∧
        pulse g.nr11 g.nr12 g.nr13 g.nr14 b.ch1 c.ch1 ∧ pulse g.nr21 g.nr22 g.nr23 g.nr24 b.ch2 c.ch2 ∧
        (b.ch3.on = true ∧ g.nr30.getLsbD 7 = true →
          ∃ k, reloads b.ch3.timer c.ch3.timer ((2048 - freq g.nr33 g.nr34) * 2) k ∧
            c.ch3 = { b.ch3 with timer := c.ch3.timer, pos := c.ch3.pos, sample := c.ch3.sample } ∧
            c.ch3.pos.toNat = (b.ch3.pos.toNat + k) % 32 ∧
            (k = 0 → c.ch3.sample = b.ch3.sample) ∧
            (k ≠ 0 → c.ch3.sample.toNat =
              let wave := (s.waveRam.read (c.ch3.pos.toNat / 2)).toNat
              if c.ch3.pos.toNat % 2 = 0 then wave / 16 else wave % 16)) ∧
        (¬(b.ch3.on = true ∧ g.nr30.getLsbD 7 = true) → c.ch3 = b.ch3) ∧
        (b.ch4.on = true ∧ g.nr42.toNat / 8 ≠ 0 →
          ∃ k, reloads b.ch4.timer c.ch4.timer (noise * 2 ^ (g.nr43.toNat / 16)) k ∧
            c.ch4 = { b.ch4 with timer := c.ch4.timer, lfsr := c.ch4.lfsr } ∧
            c.ch4.lfsr = iterate shiftLfsr k b.ch4.lfsr) ∧
        (¬(b.ch4.on = true ∧ g.nr42.toNat / 8 ≠ 0) → c.ch4 = b.ch4))

/-- R495, R496, R497: a sample. Each side sums the outputs of the enabled channels that `NR51` routes to it, goes
through the high-pass filter, whose constant lies between 0 and 1, and is scaled by its master volume; the sample joins
the audio frame being filled, which is published and begun anew when it is full. The constant, the format of a sample
and the frame length are free (log 13). The duty is the one in use, the `NRn1[7:6]` of the last reload of the timer
(R482; the model's choice, log 22). -/
def Obligations.EmittedSample : Prop :=
  ∀ a : Apu,
    let t := emitSample a
    let g := a.regs
    let pulse := fun (nr2 : Byte) (p : Pulse) =>
      let duty : List (List Nat) :=
        [[0, 0, 0, 0, 0, 0, 0, 1], [1, 0, 0, 0, 0, 0, 0, 1], [1, 0, 0, 0, 0, 1, 1, 1], [0, 1, 1, 1, 1, 1, 1, 0]]
      if p.on = true ∧ nr2.toNat / 8 ≠ 0 then
        p.vol.toNat * (duty.getD p.duty.toNat []).getD p.dutyPos.toNat 0
      else 0
    let wave :=
      if a.ch3.on = true ∧ g.nr30.getLsbD 7 = true then
        a.ch3.sample.toNat / 2 ^ [4, 0, 1, 2].getD (g.nr32.toNat / 32 % 4) 0
      else 0
    let noise :=
      if a.ch4.on = true ∧ g.nr42.toNat / 8 ≠ 0 then a.ch4.vol.toNat * (1 - a.ch4.lfsr.toNat % 2) else 0
    let mix := fun bit : Nat =>
      let routed := fun k : Nat => (g.nr51.getLsbD (bit + k)).toNat
      routed 0 * pulse g.nr12 a.ch1 + routed 1 * pulse g.nr22 a.ch2 + routed 2 * wave + routed 3 * noise
    let left : Rat := mix 4 - a.capLeft
    let right : Rat := mix 0 - a.capRight
    let sample : Sample :=
      (Config.sampleFormat (left * ((g.nr50.toNat / 16 % 8 + 1 : Nat) : Rat)),
       Config.sampleFormat (right * ((g.nr50.toNat % 8 + 1 : Nat) : Rat)))
    0 < filterConstant ∧ filterConstant < 1 ∧ 0 < audioFrameLen ∧
      t = { a with capLeft := t.capLeft, capRight := t.capRight, frame := t.frame, published := t.published } ∧
      t.capLeft = mix 4 - left * filterConstant ∧ t.capRight = mix 0 - right * filterConstant ∧
      t.frame = (if a.frame.length + 1 < audioFrameLen then a.frame ++ [sample] else []) ∧
      t.published =
        (if a.frame.length + 1 < audioFrameLen then a.published else a.published ++ [a.frame ++ [sample]])

/-- R520 to R527, R530, R540: the cartridge load. An image shorter than 0x150 bytes or with a size code outside the
tables is refused as malformed, then one of an unsupported type as unsupported, then one shorter than its banks as
truncated (the order is DEDUCED, log 20; which byte a refusal carries is the model's choice, log 20); every other image
makes a cartridge with the capability that the tables give, the image as its ROM, the save file as its RAM if it has a
battery, and its controller at the reset values, an RTC started at the time of its save file or at a sample of the wall
clock. A ROM-only cartridge has fixed banks and, with RAM, RAM that is always enabled. -/
def Obligations.CartridgeLoad : Prop :=
  (∀ (image : List Byte) (save : Option (List Byte)) (rtcSave : Option Int) (h : HostClock),
    let load := loadCartridge image save rtcSave h
    let type := (image.getD 0x147 0).toNat
    let rom := (image.getD 0x148 0).toNat
    let ram := (image.getD 0x149 0).toNat
    let banks :=
      if rom < 8 then 2 ^ (rom + 1)
      else if rom = 0x52 then 72 else if rom = 0x53 then 80 else if rom = 0x54 then 96 else 0
    let size := [0, 2048, 8192, 32768, 131072, 65536].getD ram 0
    let family : CartFamily :=
      if type ∈ [0x00, 0x08, 0x09] then .romOnly else if type ∈ [0x01, 0x02, 0x03] then .mbc1 else .mbc3
    let supported := type ∈ [0x00, 0x01, 0x02, 0x03, 0x08, 0x09, 0x0F, 0x10, 0x11, 0x12, 0x13]
    let hasRam := decide (type ∈ [0x02, 0x03, 0x08, 0x09, 0x10, 0x12, 0x13])
    let hasBattery := decide (type ∈ [0x03, 0x09, 0x0F, 0x10, 0x13])
    (image.length < 0x150 → load = .error (.malformedHeader none)) ∧
    (0x150 ≤ image.length → banks = 0 ∨ 6 ≤ ram → ∃ code, load = .error (.malformedHeader (some code))) ∧
    (0x150 ≤ image.length → banks ≠ 0 → ram < 6 →
      (¬supported → load = .error (.unsupportedCartridge (image.getD 0x147 0))) ∧
      (supported → image.length < banks * 0x4000 → ∃ code, load = .error (.truncatedRom code)) ∧
      (supported → banks * 0x4000 ≤ image.length →
        ∃ l, load = .ok l ∧
          l.cart.cap =
            { family := family, hasRam := hasRam, hasBattery := hasBattery
              hasTimer := decide (type = 0x0F ∨ type = 0x10), hasRumble := false
              ramSize := if hasRam then size else 0, romBankCount := banks } ∧
          (∀ k < image.length, l.cart.rom.read k = image.getD k 0) ∧
          (∀ bytes k, save = some bytes → hasBattery = true → k < bytes.length → k < l.cart.cap.ramSize →
            l.cart.ram.read k = bytes.getD k 0) ∧
          (family = .romOnly → l.cart.ctrl = .romOnly ∧ l.clock = h) ∧
          (family = .mbc1 →
            l.cart.ctrl = .mbc1 { ramEnable := false, bankLo := 1, bankHi := 0, mode := false } ∧ l.clock = h) ∧
          (family = .mbc3 →
            ∃ m, l.cart.ctrl = .mbc3 m ∧ m.ramEnable = false ∧ m.romBank = 1 ∧ m.ramRtcSelect = 0 ∧
              m.latchLast = none ∧ m.rtcStopped = false ∧ m.rtcCarry = false ∧
              (∀ start, rtcSave = some start → m.rtcStartTime = start ∧ l.clock = h) ∧
              (rtcSave = none → m.rtcStartTime = l.clock.now ∧ h.now ≤ l.clock.now))))) ∧
  ∀ (v : Byte) (s : State) (addr : Word), s.cart.ctrl = .romOnly →
    let k := (addr.toNat - 0xA000) % s.cart.cap.ramSize
    (0x100 ≤ addr.toNat ∨ s.bootEnabled = false → addr.toNat < 0x8000 → busRead s addr = s.cart.rom.read addr.toNat) ∧
    (addr.toNat < 0x8000 → busWrite addr v s = s) ∧
    (0xA000 ≤ addr.toNat → addr.toNat < 0xC000 →
      busRead s addr = (if s.cart.cap.ramSize = 0 then 0xFF else s.cart.ram.read k) ∧
        busWrite addr v s =
          (if s.cart.cap.ramSize = 0 then s else { s with cart := { s.cart with ram := s.cart.ram.write k v } }))

/-- R532: MBC1's ROM bank register, at every address of its range: 0x2000 to 0x3FFF takes the low 5 bits, with 0 coerced
to 1; nothing else changes. -/
def Obligations.Mbc1BankSelect : Prop :=
  ∀ (v : Byte) (s : State) (addr : Word) (m : Mbc1), s.cart.ctrl = .mbc1 m → 0x2000 ≤ addr.toNat →
    addr.toNat ≤ 0x3FFF →
    ∃ b, b ≠ 0 ∧ b.toNat = (if v.toNat % 32 = 0 then 1 else v.toNat % 32) ∧
      busWrite addr v s = { s with cart := { s.cart with ctrl := .mbc1 { m with bankLo := b } } }

/-- R531 to R536: MBC1. The four register stores, at every address of their ranges, what the two ROM windows read, and
the RAM window's loads and stores. -/
def Obligations.Mbc1Banking : Prop :=
  ∀ (v : Byte) (s : State) (addr : Word) (m : Mbc1), s.cart.ctrl = .mbc1 m →
    let a := addr.toNat
    let store := fun m' : Mbc1 => busWrite addr v s = { s with cart := { s.cart with ctrl := .mbc1 m' } }
    let raw := if m.mode then m.bankLo.toNat else m.bankHi.toNat * 32 + m.bankLo.toNat
    let bank := if raw % s.cart.cap.romBankCount = 0 then 1 else raw % s.cart.cap.romBankCount
    let ram := (if m.mode then m.bankHi.toNat else 0) * 0x2000 + (a - 0xA000)
    (a < 0x2000 → store { m with ramEnable := decide (v.toNat % 16 = 10) }) ∧
    (0x2000 ≤ a → a < 0x4000 → store { m with bankLo := if v.toNat % 32 = 0 then 1 else BitVec.ofNat 5 v.toNat }) ∧
    (0x4000 ≤ a → a < 0x6000 → store { m with bankHi := BitVec.ofNat 2 v.toNat }) ∧
    (0x6000 ≤ a → a < 0x8000 → store { m with mode := v.getLsbD 0 }) ∧
    (0x100 ≤ a ∨ s.bootEnabled = false → a < 0x4000 → busRead s addr = s.cart.rom.read a) ∧
    (0x4000 ≤ a → a < 0x8000 → busRead s addr = s.cart.rom.read (0x4000 * bank + (a - 0x4000))) ∧
    (0xA000 ≤ a → a < 0xC000 →
      busRead s addr =
          (if m.ramEnable = false ∨ s.cart.cap.ramSize = 0 then 0xFF
            else s.cart.ram.read (ram % s.cart.cap.ramSize)) ∧
        busWrite addr v s =
          (if m.ramEnable = false ∨ s.cart.cap.ramSize = 0 then s
            else { s with cart := { s.cart with ram := s.cart.ram.write (ram % s.cart.cap.ramSize) v } }))

/-- R541, R542, R543, R546, R547: MBC3. The register stores below 0x6000, at every address of their ranges: enabling is
permanent, bank 0 is coerced to 1, an illegal selector is ignored. What the two ROM windows read. The window at 0xA000:
nothing while it is not enabled; a RAM bank where one is selected and there is RAM; the latched RTC register where one
is selected and there is a timer; else 0xFF and no effect. -/
def Obligations.Mbc3Banking : Prop :=
  ∀ (v : Byte) (s : State) (addr : Word) (m : Mbc3), s.cart.ctrl = .mbc3 m →
    let a := addr.toNat
    let store := fun m' : Mbc3 => busWrite addr v s = { s with cart := { s.cart with ctrl := .mbc3 m' } }
    let legal := v.toNat ≤ 3 ∨ (8 ≤ v.toNat ∧ v.toNat ≤ 12)
    let n := s.cart.cap.romBankCount
    let bank := if m.romBank.toNat % n = 0 then 1 else m.romBank.toNat % n
    let select := m.ramRtcSelect.toNat
    let ram := (select * 0x2000 + (a - 0xA000)) % s.cart.cap.ramSize
    let l := m.rtcLatched
    let nothing := busRead s addr = 0xFF ∧ busWrite addr v s = s
    (a < 0x2000 → store { m with ramEnable := if v.toNat % 16 = 10 then true else m.ramEnable }) ∧
    (0x2000 ≤ a → a < 0x4000 → store { m with romBank := if v.toNat % 128 = 0 then 1 else BitVec.ofNat 7 v.toNat }) ∧
    (0x4000 ≤ a → a < 0x6000 → legal → store { m with ramRtcSelect := BitVec.ofNat 4 v.toNat }) ∧
    (0x4000 ≤ a → a < 0x6000 → ¬legal → store m) ∧
    (0x100 ≤ a ∨ s.bootEnabled = false → a < 0x4000 → busRead s addr = s.cart.rom.read a) ∧
    (0x4000 ≤ a → a < 0x8000 → busRead s addr = s.cart.rom.read (0x4000 * bank + (a - 0x4000))) ∧
    (0xA000 ≤ a → a < 0xC000 →
      (m.ramEnable = false → nothing) ∧
      (m.ramEnable = true → select ≤ 3 → s.cart.cap.ramSize = 0 → nothing) ∧
      (m.ramEnable = true → select ≤ 3 → s.cart.cap.ramSize ≠ 0 →
        busRead s addr = s.cart.ram.read ram ∧
          busWrite addr v s = { s with cart := { s.cart with ram := s.cart.ram.write ram v } }) ∧
      (m.ramEnable = true → 8 ≤ select → select ≤ 12 → s.cart.cap.hasTimer = false → nothing) ∧
      (m.ramEnable = true → 8 ≤ select → select ≤ 12 → s.cart.cap.hasTimer = true →
        some (busRead s addr) = [l.seconds, l.minutes, l.hours, l.dayLow, l.dayHigh][select - 8]?))

/-- R544, R545, R547: the real-time clock of MBC3. A store of 1 to the latch range after a store of 0, on a cartridge
with a timer, copies the live registers to the snapshot; any other store there is only remembered. A store to a selected
RTC register replaces that component of the live time and shifts the reference start time, and in the last register also
sets the carry and stops or restarts the clock. The wall clock never goes back. That each latch and each RTC store takes
exactly one sample of it, for a stopped clock too, is the model's choice (DESIGN CHOICE, log 10); the order inside a
store is DEDUCED (log 11). -/
def Obligations.Mbc3Clock : Prop :=
  ∀ (v : Byte) (s : State) (addr : Word) (m : Mbc3), s.cart.ctrl = .mbc3 m →
    let a := addr.toNat
    let store := fun (h : HostClock) (m' : Mbc3) =>
      busWrite addr v s = { s with hostClock := h, cart := { s.cart with ctrl := .mbc3 m' } }
    let elapsed := fun now : Nat => ((if m.rtcStopped then m.rtcStopTime else (now : Int)) - m.rtcStartTime).toNat
    let carry := fun e : Nat => decide (511 < e / 86400) || m.rtcCarry
    let latches := s.cart.cap.hasTimer = true ∧ m.latchLast = some 0 ∧ v = 1
    let select := m.ramRtcSelect.toNat
    ∃ h : HostClock, s.hostClock.now ≤ h.now ∧ h.samples = s.hostClock.samples + 1 ∧
      (0x6000 ≤ a → a < 0x8000 → ¬latches → store s.hostClock { m with latchLast := some v }) ∧
      (0x6000 ≤ a → a < 0x8000 → latches →
        let e := elapsed h.now
        ∃ l : RtcRegs, store h { m with latchLast := some v, rtcCarry := carry e, rtcLatched := l } ∧
          l.seconds.toNat = e % 60 ∧ l.minutes.toNat = e / 60 % 60 ∧ l.hours.toNat = e / 3600 % 24 ∧
          l.dayLow.toNat = e / 86400 % 256 ∧
          l.dayHigh.toNat = e / 86400 / 256 % 2 + 64 * m.rtcStopped.toNat + 128 * (carry e).toNat) ∧
      (0xA000 ≤ a → a < 0xC000 → m.ramEnable = true → s.cart.cap.hasTimer = true → 8 ≤ select → select ≤ 12 →
        let e := elapsed h.now
        let put := fun (k live : Nat) => if select = k then v.toNat else live
        let e' := put 8 (e % 60) % 60 + put 9 (e / 60 % 60) % 60 * 60 + put 10 (e / 3600 % 24) % 24 * 3600 +
          (put 11 (e / 86400 % 256) + put 12 (e / 86400 / 256) % 2 * 256) * 86400
        let start := (if m.rtcStopped then m.rtcStopTime else (h.now : Int)) - e'
        (select ≠ 12 → store h { m with rtcStartTime := start, rtcCarry := carry e }) ∧
        (select = 12 → v.getLsbD 6 = m.rtcStopped →
          store h { m with rtcStartTime := start, rtcCarry := v.getLsbD 7 }) ∧
        (select = 12 → v.getLsbD 6 = true → m.rtcStopped = false →
          store h { m with rtcStartTime := start, rtcCarry := v.getLsbD 7, rtcStopTime := h.now, rtcStopped := true }) ∧
        (select = 12 → v.getLsbD 6 = false → m.rtcStopped = true →
          store h { m with
            rtcStartTime := start + (h.now - m.rtcStopTime), rtcCarry := v.getLsbD 7, rtcStopped := false }))

/-- R31, R32, R104, R431: the registers that a store only fills: `SB`, `SC`, `IF`, `IE` and the PPU's scroll, palette
and window registers. Nothing else changes, and a load gives the byte back, with the bits that do not exist read as 1.
-/
def Obligations.PlainRegisters : Prop :=
  ∀ (v : Byte) (s : State),
    (busWrite 0xFF01 v s = { s with sb := v } ∧ busRead s 0xFF01 = s.sb) ∧
    (busWrite 0xFF02 v s = { s with sc := v } ∧
      ∀ i < 8, (busRead s 0xFF02).getLsbD i = (s.sc.getLsbD i || decide (1 ≤ i ∧ i ≤ 6))) ∧
    (busWrite 0xFF0F v s = { s with iflag := BitVec.ofNat 5 v.toNat } ∧
      (busRead s 0xFF0F).toNat = 0xE0 + s.iflag.toNat) ∧
    (busWrite 0xFFFF v s = { s with ie := v } ∧ busRead s 0xFFFF = s.ie) ∧
    (busWrite 0xFF42 v s = { s with ppu := { s.ppu with scy := v } } ∧ busRead s 0xFF42 = s.ppu.scy) ∧
    (busWrite 0xFF43 v s = { s with ppu := { s.ppu with scx := v } } ∧ busRead s 0xFF43 = s.ppu.scx) ∧
    (busWrite 0xFF47 v s = { s with ppu := { s.ppu with bgp := v } } ∧ busRead s 0xFF47 = s.ppu.bgp) ∧
    (busWrite 0xFF48 v s = { s with ppu := { s.ppu with obp0 := v } } ∧ busRead s 0xFF48 = s.ppu.obp0) ∧
    (busWrite 0xFF49 v s = { s with ppu := { s.ppu with obp1 := v } } ∧ busRead s 0xFF49 = s.ppu.obp1) ∧
    (busWrite 0xFF4A v s = { s with ppu := { s.ppu with wy := v } } ∧ busRead s 0xFF4A = s.ppu.wy) ∧
    (busWrite 0xFF4B v s = { s with ppu := { s.ppu with wx := v } } ∧ busRead s 0xFF4B = s.ppu.wx)

/-- R102, R352, R380: the joypad register: a line reads 0 exactly when a selected button is pressed, and a line going
from 1 to 0, by a store or by the host, requests interrupt 4. A step begins with the host's changes for this step
boundary (their form is the model's choice, log 12), made in order, and goes on as the step of the machine that they
leave. -/
def Obligations.JoypadRegister : Prop :=
  ∀ (v : Byte) (b : Buttons) (s : State),
    let line := fun (sel : BitVec 2) (b : Buttons) (i : Nat) =>
      !((!sel.getLsbD 0 && b.direction.getLsbD i) || (!sel.getLsbD 1 && b.action.getLsbD i))
    let request := fun (sel : BitVec 2) (b : Buttons) (t : State) =>
      ∀ n < 5, t.iflag.getLsbD n =
        (s.iflag.getLsbD n ||
          (decide (n = 4) && (List.range 4).any fun i => line s.joypSelect s.buttons i && !line sel b i))
    let sel : BitVec 2 := BitVec.ofNat 2 (v.toNat / 16)
    (∀ i < 4, (busRead s 0xFF00).getLsbD i = line s.joypSelect s.buttons i) ∧
      (busRead s 0xFF00).toNat / 16 = 0xC + s.joypSelect.toNat ∧
      busWrite 0xFF00 v s = { s with joypSelect := sel, iflag := (busWrite 0xFF00 v s).iflag } ∧
      request sel s.buttons (busWrite 0xFF00 v s) ∧
      hostPress s b = { s with buttons := b, iflag := (hostPress s b).iflag } ∧
      request s.joypSelect b (hostPress s b) ∧
      (s.hostInputs = [] → takeHostInput s = s) ∧
      ∀ events later, s.hostInputs = events :: later →
        takeHostInput s = events.foldl hostPress { s with hostInputs := later } ∧
          step s = step { takeHostInput s with hostInputs := [] :: later }

/-! ## The bus -/

/-- R120, R75: a byte stored to memory is what a load from any address that stands for the same byte returns, gates
permitting. -/
def Obligations.StoredByteReadsBack : Prop :=
  ∀ (addr b : Word) (v : Byte) (s : State), MemoryInv s → isStorable s addr = true → isUngated s b = true →
    cellOf s b = cellOf s addr → busRead (busWrite addr v s) b = v

/-- R75, R90: a store to an address that is no controller or device register changes what a load returns at no address
but those that stand for the same byte, and 0xFFFF only if that is the address. -/
def Obligations.StoreLeavesOtherAddresses : Prop :=
  ∀ (addr b : Word) (v : Byte) (s : State), isPlainTarget s addr = true → addr ≠ b →
    (cellOf s b ≠ cellOf s addr ∨ cellOf s b = none) → busRead (busWrite addr v s) b = busRead s b

/-- R75, R77, R78, R101, R106: while its gate is closed, `VRAM` or `OAM` reads 0xFF and loses stores; the boot overlay
answers loads below 0x0100 until a store to 0xFF50, and stores there reach the cartridge; the unused tail of the OAM
page reads 0; an unmapped I/O address reads 0xFF and loses stores. -/
def Obligations.GatesOverlayAndHoles : Prop :=
  ∀ (a : Word) (v : Byte) (s : State),
    (0x8000 ≤ a.toNat → a.toNat < 0xA000 → s.ppu.vramAccess = false → busRead s a = 0xFF ∧ busWrite a v s = s) ∧
    (0xFE00 ≤ a.toNat → a.toNat < 0xFEA0 → s.ppu.oamAccess = false → busRead s a = 0xFF ∧ busWrite a v s = s) ∧
    (0xFEA0 ≤ a.toNat → a.toNat < 0xFF00 → busRead s a = 0x00 ∧ busWrite a v s = s) ∧
    (a = 0xFF03 ∨ (0xFF08 ≤ a.toNat ∧ a.toNat ≤ 0xFF0E) ∨ a = 0xFF15 ∨ a = 0xFF1F ∨
        (0xFF27 ≤ a.toNat ∧ a.toNat ≤ 0xFF2F) ∨ (0xFF4C ≤ a.toNat ∧ a.toNat ≤ 0xFF4F) ∨
        (0xFF51 ≤ a.toNat ∧ a.toNat ≤ 0xFF7F) →
      busRead s a = 0xFF ∧ busWrite a v s = s) ∧
    (a.toNat < 0x100 → s.bootEnabled = true →
      busRead s a = s.bootRom.read a.toNat ∧
        busWrite a v s = { busWrite a v { s with bootEnabled := false } with bootEnabled := true }) ∧
    (a.toNat < 0x100 → s.bootEnabled = false → busRead s a = s.cart.rom.read a.toNat) ∧
    busWrite 0xFF50 v s = { s with bootEnabled := false } ∧ busRead s 0xFF50 = 0xFF

/-! ## Invariants -/

/-- R35, R36, R403, R580: every step keeps the clock and the divider multiples of 4 and the edge detector up to date,
whatever the costs are. -/
def Obligations.StepKeepsClockInv : Prop := ∀ s t : State, ClockInv s → step s = .next t → ClockInv t

/-- R41, R75: every step keeps every memory in canonical form and inside its size. -/
def Obligations.StepKeepsMemoryInv : Prop := ∀ s t : State, MemoryInv s → step s = .next t → MemoryInv t

/-- R434 to R441: every step keeps the PPU in agreement with the clock: off and idle, starting, or on its schedule with
the gates of its mode and the lcd-stat line of its conditions. -/
def Obligations.StepKeepsPpuInv : Prop := ∀ s t : State, PpuInv s → step s = .next t → PpuInv t

/-- R483, R484, R486 to R493: every step keeps the sound counters in their ranges, and every register and channel clear
while the APU is off. -/
def Obligations.StepKeepsApuInv : Prop := ∀ s t : State, ApuInv s → step s = .next t → ApuInv t

/-- R530, R532, R540, R542, R543: every step keeps the controller's registers legal: no bank register is 0, and MBC3's
selector names a RAM bank or an RTC register. -/
def Obligations.StepKeepsControllerInv : Prop := ∀ s t : State, ControllerInv s → step s = .next t → ControllerInv t

/-- R28, R30, R332, R337: in a machine whose pending EI and halt quirk only stand while it runs or after it has faulted,
every step keeps that so. -/
def Obligations.StepKeepsDelayInv : Prop := ∀ s t : State, DelayInv s → step s = .next t → DelayInv t

/-- R7, R72, R76, R78, R520, R521: no step changes the cartridge image, the boot image, the capability or the
parameters. -/
def Obligations.StepKeepsBuild : Prop := ∀ s t : State, step s = .next t → SameBuild s t

/-- The invariants hold right after reset. -/
def Obligations.ResetSatisfiesInvariants : Prop :=
  ClockInv State.reset ∧ MemoryInv State.reset ∧ PpuInv State.reset ∧ ApuInv State.reset ∧ ControllerInv State.reset ∧
    DelayInv State.reset ∧ ParamsInv State.reset

/-- R49, R560, R563: what a `power_on` reset establishes; a `power_on` launch is that reset with its boot image, its
cartridge and its parameters, and a `post_boot` launch gives the values of its column, whatever the state is that the
unspecified ones are taken from (the model's choice, log 21), with the PPU on its schedule. A launch whose cartridge
load fails builds no machine. -/
def Obligations.ResetAndLaunch : Prop :=
  let s := State.reset
  s.regs.pc = 0x0000 ∧ s.ime = false ∧ s.imePending = false ∧ s.haltBug = false ∧ s.dmaPending = false ∧
    s.timer.overflow = false ∧ s.cpuState = .running ∧ s.bootEnabled = true ∧ s.ie = 0x00 ∧ s.iflag = 0 ∧
    s.cpuClock = 0 ∧ s.timer.div = 0 ∧ s.timer.divLast = 0 ∧ s.timer.tima = 0 ∧ s.timer.tma = 0 ∧ s.timer.tac = 0 ∧
    s.dma = 0xFF ∧ s.joypSelect = 0b11 ∧ s.sb = 0 ∧ s.sc = 0 ∧ s.ppu.lcdc = 0 ∧ s.ppu.statEnables = 0 ∧
    s.ppu.scy = 0 ∧ s.ppu.scx = 0 ∧ s.ppu.lyc = 0 ∧ s.ppu.wy = 0 ∧ s.ppu.wx = 0 ∧ s.ppu.bgp = 0 ∧ s.ppu.obp0 = 0 ∧
    s.ppu.obp1 = 0 ∧ s.ppu.published = none ∧ s.ppu.framesPublished = 0 ∧ s.apu.power = false ∧ s.apu.regs = .off ∧
    s.apu.ch4.lfsr = 0x7FFF ∧
    (∀ (boot : List Byte) (l : Loaded) (params : Params),
      powerOn boot l params =
          { s with
            bootRom := (powerOn boot l params).bootRom, cart := l.cart, hostClock := l.clock, params := params } ∧
        ∀ k < boot.length, k < 256 → (powerOn boot l params).bootRom.read k = boot.getD k 0) ∧
    (∀ (l : Loaded) (params : Params) (u : State),
      let t := postBoot l params u
      t.regs = { a := 0x01, f := { z := true, n := false, h := true, c := true }, b := 0x00, c := 0x13, d := 0x00
                 e := 0xD8, h := 0x01, l := 0x4D, sp := 0xFFFE, pc := 0x0100 } ∧
        t.ime = false ∧ t.imePending = false ∧ t.haltBug = false ∧ t.dmaPending = false ∧ t.cpuState = .running ∧
        t.bootEnabled = false ∧ t.ie = 0x00 ∧ (busRead t 0xFF0F) = 0xE1 ∧ t.cpuClock % 4 = 0 ∧ t.dma = 0xFF ∧
        t.timer = { div := 0xABCC, divLast := 0xABCC, tima := 0, tma := 0, tac := 0, overflow := false } ∧
        t.joypSelect = 0b11 ∧ t.sb = 0 ∧ t.sc = 0 ∧ t.ppu.lcdc = 0x91 ∧ t.ppu.statEnables = 0 ∧ t.ppu.scy = 0 ∧
        t.ppu.scx = 0 ∧ t.ppu.lyc = 0 ∧ t.ppu.wy = 0 ∧ t.ppu.wx = 0 ∧ t.ppu.bgp = 0xFC ∧ t.apu.power = true ∧
        t.cart = l.cart ∧ t.hostClock = l.clock ∧ t.params = params ∧ ClockInv t ∧ PpuInv t) ∧
    ∀ (params : Params) (image : List Byte) (save : Option (List Byte)) (rtcSave : Option Int) (h : HostClock),
      let load := loadCartridge image save rtcSave h
      let built := fun kind : LaunchKind => launch kind params image save rtcSave h
      (∀ e, load = .error e → ∀ kind, built kind = .error e) ∧
        ∀ l, load = .ok l →
          (∀ boot, built (.powerOn boot) = .ok (powerOn boot l params)) ∧
            ∀ u, built (.postBoot u) = .ok (postBoot l params u)
end

