-- ==== Sys2Proof/Laws/Memory.lean ====
section
/-! SUPPORT. Laws of one array of bytes: a read after a write, the canonical form and the bound kept by every
operation, and equality of canonical memories that read the same. -/

namespace Sys2Proof.Laws

open Sys2Proof Machine

@[simp] theorem memory_read_nil (a : Nat) : Memory.read [] a = Memory.fill := rfl

@[simp] theorem memory_wf_nil : Memory.wf [] = true := rfl

@[simp] theorem memory_within_nil (n : Nat) : Memory.within n [] = true := rfl

theorem memory_wf_cons {k : Nat} {v : Byte} {m : Memory} :
    Memory.wf ((k, v) :: m) = true ↔ v ≠ Memory.fill ∧ (∀ c ∈ m, k < c.1) ∧ Memory.wf m = true := by
  simp [Memory.wf, and_assoc]

/-- A canonical memory's offsets below its first listed one read as unlisted. -/
theorem memory_read_below {m : Memory} {a : Nat} (h : ∀ c ∈ m, a < c.1) : m.read a = Memory.fill := by
  induction m with
  | nil => rfl
  | cons c m ih =>
    obtain ⟨k, v⟩ := c
    have hk : a < k := h (k, v) (by simp)
    simp only [Memory.read]
    rw [if_neg (by omega)]
    exact ih fun c hc => h c (by simp [hc])

/-- A cell of the result of a write is the written one or one of the old ones. -/
theorem memory_mem_write {m : Memory} {a : Nat} {v : Byte} {c : Host.Cell} (h : c ∈ m.write a v) :
    c = (a, v) ∨ c ∈ m := by
  induction m with
  | nil =>
    simp only [Memory.write] at h
    split at h <;> simp_all
  | cons d m ih =>
    obtain ⟨k, w⟩ := d
    simp only [Memory.write] at h
    split at h
    · split at h
      · exact .inr h
      · simpa using h
    · split at h
      · split at h
        · exact .inr (by simp [h])
        · rcases List.mem_cons.1 h with h | h
          · exact .inl h
          · exact .inr (by simp [h])
      · rcases List.mem_cons.1 h with h | h
        · exact .inr (by simp [h])
        · rcases ih h with h | h
          · exact .inl h
          · exact .inr (by simp [h])

/-- A write keeps the canonical form. -/
theorem memory_wf_write {m : Memory} (a : Nat) (v : Byte) (h : m.wf = true) : (m.write a v).wf = true := by
  induction m with
  | nil =>
    simp only [Memory.write]
    split
    · rfl
    · rename_i hv
      exact memory_wf_cons.2 ⟨hv, by simp, rfl⟩
  | cons d m ih =>
    obtain ⟨k, w⟩ := d
    obtain ⟨hw, hk, hm⟩ := memory_wf_cons.1 h
    simp only [Memory.write]
    split
    · rename_i ha
      split
      · exact h
      · rename_i hv
        refine memory_wf_cons.2 ⟨hv, ?_, h⟩
        intro c hc
        rcases List.mem_cons.1 hc with rfl | hc
        · exact ha
        · exact lt_trans ha (hk c hc)
    · split
      · rename_i hak
        subst hak
        split
        · exact hm
        · rename_i hv
          exact memory_wf_cons.2 ⟨hv, hk, hm⟩
      · refine memory_wf_cons.2 ⟨hw, ?_, ih hm⟩
        intro c hc
        rcases memory_mem_write hc with rfl | hc
        · show k < a
          omega
        · exact hk c hc

/-- A write within the bound keeps the bound. -/
theorem memory_within_write {m : Memory} {n a : Nat} (v : Byte) (ha : a < n) (h : m.within n = true) :
    (m.write a v).within n = true := by
  simp only [Memory.within, List.all_eq_true, decide_eq_true_eq] at *
  intro c hc
  rcases memory_mem_write hc with rfl | hc
  · exact ha
  · exact h c hc

/-- A read after a write to the same offset gives the value written, in a canonical memory. -/
theorem memory_read_write_same {m : Memory} (a : Nat) (v : Byte) (h : m.wf = true) : (m.write a v).read a = v := by
  induction m with
  | nil =>
    simp only [Memory.write]
    split <;> simp_all [Memory.read]
  | cons d m ih =>
    obtain ⟨k, w⟩ := d
    obtain ⟨-, hk, hm⟩ := memory_wf_cons.1 h
    simp only [Memory.write]
    split
    · rename_i ha
      split
      · rename_i hv
        subst hv
        refine memory_read_below ?_
        intro c hc
        rcases List.mem_cons.1 hc with rfl | hc
        · exact ha
        · exact lt_trans ha (hk c hc)
      · simp [Memory.read]
    · split
      · rename_i hak
        subst hak
        split
        · rename_i hv
          subst hv
          exact memory_read_below hk
        · simp [Memory.read]
      · rename_i h1 h2
        simp only [Memory.read]
        rw [if_neg (by omega)]
        exact ih hm

/-- A write leaves every other offset alone. -/
theorem memory_read_write_other (m : Memory) {a b : Nat} (v : Byte) (h : a ≠ b) : (m.write a v).read b = m.read b := by
  induction m with
  | nil =>
    simp only [Memory.write]
    split <;> simp [Memory.read, h]
  | cons d m ih =>
    obtain ⟨k, w⟩ := d
    simp only [Memory.write]
    split
    · split <;> simp [Memory.read, h]
    · split
      · rename_i hak
        subst hak
        split <;> simp [Memory.read, h]
      · simp only [Memory.read]
        split
        · rfl
        · exact ih

theorem memory_mem_ofBytes {vs : List Byte} {k : Nat} {c : Host.Cell} (h : c ∈ Memory.ofBytes k vs) :
    k ≤ c.1 ∧ c.1 < k + vs.length := by
  induction vs generalizing k with
  | nil => simp [Memory.ofBytes] at h
  | cons v vs ih =>
    simp only [Memory.ofBytes] at h
    split at h
    · have := ih h
      simp only [List.length_cons]
      omega
    · rcases List.mem_cons.1 h with rfl | h
      · simp
      · have := ih h
        simp only [List.length_cons]
        omega

/-- A memory made of bytes is canonical. -/
theorem memory_wf_ofBytes (k : Nat) (vs : List Byte) : (Memory.ofBytes k vs).wf = true := by
  induction vs generalizing k with
  | nil => rfl
  | cons v vs ih =>
    simp only [Memory.ofBytes]
    split
    · exact ih _
    · rename_i hv
      refine memory_wf_cons.2 ⟨hv, ?_, ih _⟩
      intro c hc
      have := memory_mem_ofBytes hc
      omega

/-- A memory made of bytes lists no offset past them. -/
theorem memory_within_ofBytes {n : Nat} (k : Nat) (vs : List Byte) (h : k + vs.length ≤ n) :
    (Memory.ofBytes k vs).within n = true := by
  simp only [Memory.within, List.all_eq_true, decide_eq_true_eq]
  intro c hc
  have := memory_mem_ofBytes hc
  omega

/-- A memory made of bytes reads as those bytes. -/
theorem memory_read_ofBytes (k : Nat) (vs : List Byte) (a : Nat) :
    (Memory.ofBytes k vs).read a = if k ≤ a then vs.getD (a - k) Memory.fill else Memory.fill := by
  induction vs generalizing k with
  | nil => simp [Memory.ofBytes]
  | cons v vs ih =>
    simp only [Memory.ofBytes]
    split
    · rename_i hv
      rw [ih]
      rcases lt_trichotomy a k with h | h | h
      · rw [if_neg (by omega), if_neg (by omega)]
      · subst h
        simp [hv]
      · rw [if_pos (by omega), if_pos (by omega)]
        obtain ⟨j, rfl⟩ : ∃ j, a = k + 1 + j := ⟨a - (k + 1), by omega⟩
        have e : k + 1 + j - k = j + 1 := by omega
        simp [e]
    · simp only [Memory.read]
      split
      · rename_i hv hk
        subst hk
        simp
      · rw [ih]
        rcases lt_trichotomy a k with h | h | h
        · rw [if_neg (by omega), if_neg (by omega)]
        · omega
        · rw [if_pos (by omega), if_pos (by omega)]
          obtain ⟨j, rfl⟩ : ∃ j, a = k + 1 + j := ⟨a - (k + 1), by omega⟩
          have e : k + 1 + j - k = j + 1 := by omega
          simp [e]

/-- Canonical memories that read the same at every offset are equal. -/
theorem memory_ext {m m' : Memory} (h : m.wf = true) (h' : m'.wf = true) (e : ∀ a, m.read a = m'.read a) : m = m' := by
  induction m generalizing m' with
  | nil =>
    cases m' with
    | nil => rfl
    | cons d m' =>
      obtain ⟨k, v⟩ := d
      obtain ⟨hv, -, -⟩ := memory_wf_cons.1 h'
      have := e k
      simp only [Memory.read, if_true] at this
      exact absurd this.symm hv
  | cons d m ih =>
    obtain ⟨k, v⟩ := d
    obtain ⟨hv, hk, hm⟩ := memory_wf_cons.1 h
    cases m' with
    | nil =>
      have := e k
      simp only [Memory.read, if_true] at this
      exact absurd this hv
    | cons d' m' =>
      obtain ⟨k', v'⟩ := d'
      obtain ⟨hv', hk', hm'⟩ := memory_wf_cons.1 h'
      rcases lt_trichotomy k k' with hlt | rfl | hlt
      · have := e k
        rw [memory_read_below (m := (k', v') :: m')] at this
        · simp only [Memory.read, if_true] at this
          exact absurd this hv
        · intro c hc
          rcases List.mem_cons.1 hc with rfl | hc
          · exact hlt
          · exact lt_trans hlt (hk' c hc)
      · have hvv : v = v' := by simpa [Memory.read] using e k
        subst hvv
        congr 1
        refine ih hm hm' fun a => ?_
        rcases eq_or_ne k a with rfl | ha
        · rw [memory_read_below hk, memory_read_below hk']
        · simpa [Memory.read, ha] using e a
      · have := e k'
        rw [memory_read_below (m := (k, v) :: m)] at this
        · simp only [Memory.read, if_true] at this
          exact absurd this.symm hv'
        · intro c hc
          rcases List.mem_cons.1 hc with rfl | hc
          · exact hlt
          · exact lt_trans hlt (hk c hc)

end Sys2Proof.Laws
end

