-- ==== Sys2Proof/Laws/State.lean ====
section
/-! SUPPORT. One lemma per field per register update of the state, true by computation, so that no proof unfolds an
update. -/

namespace Sys2Proof.Laws

open Sys2Proof Machine

/-! ## `setRegs` -/

@[simp] theorem setRegs_regs (r : Regs) (s : State) : (setRegs s r).regs = r := rfl
@[simp] theorem setRegs_ime (r : Regs) (s : State) : (setRegs s r).ime = s.ime := rfl
@[simp] theorem setRegs_imePending (r : Regs) (s : State) : (setRegs s r).imePending = s.imePending := rfl
@[simp] theorem setRegs_cpuState (r : Regs) (s : State) : (setRegs s r).cpuState = s.cpuState := rfl
@[simp] theorem setRegs_haltBug (r : Regs) (s : State) : (setRegs s r).haltBug = s.haltBug := rfl
@[simp] theorem setRegs_ie (r : Regs) (s : State) : (setRegs s r).ie = s.ie := rfl
@[simp] theorem setRegs_iflag (r : Regs) (s : State) : (setRegs s r).iflag = s.iflag := rfl
@[simp] theorem setRegs_dma (r : Regs) (s : State) : (setRegs s r).dma = s.dma := rfl
@[simp] theorem setRegs_dmaPending (r : Regs) (s : State) : (setRegs s r).dmaPending = s.dmaPending := rfl
@[simp] theorem setRegs_bootEnabled (r : Regs) (s : State) : (setRegs s r).bootEnabled = s.bootEnabled := rfl
@[simp] theorem setRegs_cpuClock (r : Regs) (s : State) : (setRegs s r).cpuClock = s.cpuClock := rfl
@[simp] theorem setRegs_timer (r : Regs) (s : State) : (setRegs s r).timer = s.timer := rfl
@[simp] theorem setRegs_joypSelect (r : Regs) (s : State) : (setRegs s r).joypSelect = s.joypSelect := rfl
@[simp] theorem setRegs_buttons (r : Regs) (s : State) : (setRegs s r).buttons = s.buttons := rfl
@[simp] theorem setRegs_sb (r : Regs) (s : State) : (setRegs s r).sb = s.sb := rfl
@[simp] theorem setRegs_sc (r : Regs) (s : State) : (setRegs s r).sc = s.sc := rfl
@[simp] theorem setRegs_ppu (r : Regs) (s : State) : (setRegs s r).ppu = s.ppu := rfl
@[simp] theorem setRegs_apu (r : Regs) (s : State) : (setRegs s r).apu = s.apu := rfl
@[simp] theorem setRegs_bootRom (r : Regs) (s : State) : (setRegs s r).bootRom = s.bootRom := rfl
@[simp] theorem setRegs_vram (r : Regs) (s : State) : (setRegs s r).vram = s.vram := rfl
@[simp] theorem setRegs_wram0 (r : Regs) (s : State) : (setRegs s r).wram0 = s.wram0 := rfl
@[simp] theorem setRegs_wram1 (r : Regs) (s : State) : (setRegs s r).wram1 = s.wram1 := rfl
@[simp] theorem setRegs_oam (r : Regs) (s : State) : (setRegs s r).oam = s.oam := rfl
@[simp] theorem setRegs_hram (r : Regs) (s : State) : (setRegs s r).hram = s.hram := rfl
@[simp] theorem setRegs_waveRam (r : Regs) (s : State) : (setRegs s r).waveRam = s.waveRam := rfl
@[simp] theorem setRegs_cart (r : Regs) (s : State) : (setRegs s r).cart = s.cart := rfl
@[simp] theorem setRegs_params (r : Regs) (s : State) : (setRegs s r).params = s.params := rfl
@[simp] theorem setRegs_hostClock (r : Regs) (s : State) : (setRegs s r).hostClock = s.hostClock := rfl
@[simp] theorem setRegs_hostInputs (r : Regs) (s : State) : (setRegs s r).hostInputs = s.hostInputs := rfl

/-! ## `setPc` -/

@[simp] theorem setPc_a (v : Word) (s : State) : (setPc v s).regs.a = s.regs.a := rfl
@[simp] theorem setPc_f (v : Word) (s : State) : (setPc v s).regs.f = s.regs.f := rfl
@[simp] theorem setPc_b (v : Word) (s : State) : (setPc v s).regs.b = s.regs.b := rfl
@[simp] theorem setPc_c (v : Word) (s : State) : (setPc v s).regs.c = s.regs.c := rfl
@[simp] theorem setPc_d (v : Word) (s : State) : (setPc v s).regs.d = s.regs.d := rfl
@[simp] theorem setPc_e (v : Word) (s : State) : (setPc v s).regs.e = s.regs.e := rfl
@[simp] theorem setPc_h (v : Word) (s : State) : (setPc v s).regs.h = s.regs.h := rfl
@[simp] theorem setPc_l (v : Word) (s : State) : (setPc v s).regs.l = s.regs.l := rfl
@[simp] theorem setPc_sp (v : Word) (s : State) : (setPc v s).regs.sp = s.regs.sp := rfl
@[simp] theorem setPc_pc (v : Word) (s : State) : (setPc v s).regs.pc = v := rfl
@[simp] theorem setPc_ime (v : Word) (s : State) : (setPc v s).ime = s.ime := rfl
@[simp] theorem setPc_imePending (v : Word) (s : State) : (setPc v s).imePending = s.imePending := rfl
@[simp] theorem setPc_cpuState (v : Word) (s : State) : (setPc v s).cpuState = s.cpuState := rfl
@[simp] theorem setPc_haltBug (v : Word) (s : State) : (setPc v s).haltBug = s.haltBug := rfl
@[simp] theorem setPc_ie (v : Word) (s : State) : (setPc v s).ie = s.ie := rfl
@[simp] theorem setPc_iflag (v : Word) (s : State) : (setPc v s).iflag = s.iflag := rfl
@[simp] theorem setPc_dma (v : Word) (s : State) : (setPc v s).dma = s.dma := rfl
@[simp] theorem setPc_dmaPending (v : Word) (s : State) : (setPc v s).dmaPending = s.dmaPending := rfl
@[simp] theorem setPc_bootEnabled (v : Word) (s : State) : (setPc v s).bootEnabled = s.bootEnabled := rfl
@[simp] theorem setPc_cpuClock (v : Word) (s : State) : (setPc v s).cpuClock = s.cpuClock := rfl
@[simp] theorem setPc_timer (v : Word) (s : State) : (setPc v s).timer = s.timer := rfl
@[simp] theorem setPc_joypSelect (v : Word) (s : State) : (setPc v s).joypSelect = s.joypSelect := rfl
@[simp] theorem setPc_buttons (v : Word) (s : State) : (setPc v s).buttons = s.buttons := rfl
@[simp] theorem setPc_sb (v : Word) (s : State) : (setPc v s).sb = s.sb := rfl
@[simp] theorem setPc_sc (v : Word) (s : State) : (setPc v s).sc = s.sc := rfl
@[simp] theorem setPc_ppu (v : Word) (s : State) : (setPc v s).ppu = s.ppu := rfl
@[simp] theorem setPc_apu (v : Word) (s : State) : (setPc v s).apu = s.apu := rfl
@[simp] theorem setPc_bootRom (v : Word) (s : State) : (setPc v s).bootRom = s.bootRom := rfl
@[simp] theorem setPc_vram (v : Word) (s : State) : (setPc v s).vram = s.vram := rfl
@[simp] theorem setPc_wram0 (v : Word) (s : State) : (setPc v s).wram0 = s.wram0 := rfl
@[simp] theorem setPc_wram1 (v : Word) (s : State) : (setPc v s).wram1 = s.wram1 := rfl
@[simp] theorem setPc_oam (v : Word) (s : State) : (setPc v s).oam = s.oam := rfl
@[simp] theorem setPc_hram (v : Word) (s : State) : (setPc v s).hram = s.hram := rfl
@[simp] theorem setPc_waveRam (v : Word) (s : State) : (setPc v s).waveRam = s.waveRam := rfl
@[simp] theorem setPc_cart (v : Word) (s : State) : (setPc v s).cart = s.cart := rfl
@[simp] theorem setPc_params (v : Word) (s : State) : (setPc v s).params = s.params := rfl
@[simp] theorem setPc_hostClock (v : Word) (s : State) : (setPc v s).hostClock = s.hostClock := rfl
@[simp] theorem setPc_hostInputs (v : Word) (s : State) : (setPc v s).hostInputs = s.hostInputs := rfl

/-! ## `setSp` -/

@[simp] theorem setSp_a (v : Word) (s : State) : (setSp v s).regs.a = s.regs.a := rfl
@[simp] theorem setSp_f (v : Word) (s : State) : (setSp v s).regs.f = s.regs.f := rfl
@[simp] theorem setSp_b (v : Word) (s : State) : (setSp v s).regs.b = s.regs.b := rfl
@[simp] theorem setSp_c (v : Word) (s : State) : (setSp v s).regs.c = s.regs.c := rfl
@[simp] theorem setSp_d (v : Word) (s : State) : (setSp v s).regs.d = s.regs.d := rfl
@[simp] theorem setSp_e (v : Word) (s : State) : (setSp v s).regs.e = s.regs.e := rfl
@[simp] theorem setSp_h (v : Word) (s : State) : (setSp v s).regs.h = s.regs.h := rfl
@[simp] theorem setSp_l (v : Word) (s : State) : (setSp v s).regs.l = s.regs.l := rfl
@[simp] theorem setSp_sp (v : Word) (s : State) : (setSp v s).regs.sp = v := rfl
@[simp] theorem setSp_pc (v : Word) (s : State) : (setSp v s).regs.pc = s.regs.pc := rfl
@[simp] theorem setSp_ime (v : Word) (s : State) : (setSp v s).ime = s.ime := rfl
@[simp] theorem setSp_imePending (v : Word) (s : State) : (setSp v s).imePending = s.imePending := rfl
@[simp] theorem setSp_cpuState (v : Word) (s : State) : (setSp v s).cpuState = s.cpuState := rfl
@[simp] theorem setSp_haltBug (v : Word) (s : State) : (setSp v s).haltBug = s.haltBug := rfl
@[simp] theorem setSp_ie (v : Word) (s : State) : (setSp v s).ie = s.ie := rfl
@[simp] theorem setSp_iflag (v : Word) (s : State) : (setSp v s).iflag = s.iflag := rfl
@[simp] theorem setSp_dma (v : Word) (s : State) : (setSp v s).dma = s.dma := rfl
@[simp] theorem setSp_dmaPending (v : Word) (s : State) : (setSp v s).dmaPending = s.dmaPending := rfl
@[simp] theorem setSp_bootEnabled (v : Word) (s : State) : (setSp v s).bootEnabled = s.bootEnabled := rfl
@[simp] theorem setSp_cpuClock (v : Word) (s : State) : (setSp v s).cpuClock = s.cpuClock := rfl
@[simp] theorem setSp_timer (v : Word) (s : State) : (setSp v s).timer = s.timer := rfl
@[simp] theorem setSp_joypSelect (v : Word) (s : State) : (setSp v s).joypSelect = s.joypSelect := rfl
@[simp] theorem setSp_buttons (v : Word) (s : State) : (setSp v s).buttons = s.buttons := rfl
@[simp] theorem setSp_sb (v : Word) (s : State) : (setSp v s).sb = s.sb := rfl
@[simp] theorem setSp_sc (v : Word) (s : State) : (setSp v s).sc = s.sc := rfl
@[simp] theorem setSp_ppu (v : Word) (s : State) : (setSp v s).ppu = s.ppu := rfl
@[simp] theorem setSp_apu (v : Word) (s : State) : (setSp v s).apu = s.apu := rfl
@[simp] theorem setSp_bootRom (v : Word) (s : State) : (setSp v s).bootRom = s.bootRom := rfl
@[simp] theorem setSp_vram (v : Word) (s : State) : (setSp v s).vram = s.vram := rfl
@[simp] theorem setSp_wram0 (v : Word) (s : State) : (setSp v s).wram0 = s.wram0 := rfl
@[simp] theorem setSp_wram1 (v : Word) (s : State) : (setSp v s).wram1 = s.wram1 := rfl
@[simp] theorem setSp_oam (v : Word) (s : State) : (setSp v s).oam = s.oam := rfl
@[simp] theorem setSp_hram (v : Word) (s : State) : (setSp v s).hram = s.hram := rfl
@[simp] theorem setSp_waveRam (v : Word) (s : State) : (setSp v s).waveRam = s.waveRam := rfl
@[simp] theorem setSp_cart (v : Word) (s : State) : (setSp v s).cart = s.cart := rfl
@[simp] theorem setSp_params (v : Word) (s : State) : (setSp v s).params = s.params := rfl
@[simp] theorem setSp_hostClock (v : Word) (s : State) : (setSp v s).hostClock = s.hostClock := rfl
@[simp] theorem setSp_hostInputs (v : Word) (s : State) : (setSp v s).hostInputs = s.hostInputs := rfl

/-! ## `setA` -/

@[simp] theorem setA_a (v : Byte) (s : State) : (setA v s).regs.a = v := rfl
@[simp] theorem setA_f (v : Byte) (s : State) : (setA v s).regs.f = s.regs.f := rfl
@[simp] theorem setA_b (v : Byte) (s : State) : (setA v s).regs.b = s.regs.b := rfl
@[simp] theorem setA_c (v : Byte) (s : State) : (setA v s).regs.c = s.regs.c := rfl
@[simp] theorem setA_d (v : Byte) (s : State) : (setA v s).regs.d = s.regs.d := rfl
@[simp] theorem setA_e (v : Byte) (s : State) : (setA v s).regs.e = s.regs.e := rfl
@[simp] theorem setA_h (v : Byte) (s : State) : (setA v s).regs.h = s.regs.h := rfl
@[simp] theorem setA_l (v : Byte) (s : State) : (setA v s).regs.l = s.regs.l := rfl
@[simp] theorem setA_sp (v : Byte) (s : State) : (setA v s).regs.sp = s.regs.sp := rfl
@[simp] theorem setA_pc (v : Byte) (s : State) : (setA v s).regs.pc = s.regs.pc := rfl
@[simp] theorem setA_ime (v : Byte) (s : State) : (setA v s).ime = s.ime := rfl
@[simp] theorem setA_imePending (v : Byte) (s : State) : (setA v s).imePending = s.imePending := rfl
@[simp] theorem setA_cpuState (v : Byte) (s : State) : (setA v s).cpuState = s.cpuState := rfl
@[simp] theorem setA_haltBug (v : Byte) (s : State) : (setA v s).haltBug = s.haltBug := rfl
@[simp] theorem setA_ie (v : Byte) (s : State) : (setA v s).ie = s.ie := rfl
@[simp] theorem setA_iflag (v : Byte) (s : State) : (setA v s).iflag = s.iflag := rfl
@[simp] theorem setA_dma (v : Byte) (s : State) : (setA v s).dma = s.dma := rfl
@[simp] theorem setA_dmaPending (v : Byte) (s : State) : (setA v s).dmaPending = s.dmaPending := rfl
@[simp] theorem setA_bootEnabled (v : Byte) (s : State) : (setA v s).bootEnabled = s.bootEnabled := rfl
@[simp] theorem setA_cpuClock (v : Byte) (s : State) : (setA v s).cpuClock = s.cpuClock := rfl
@[simp] theorem setA_timer (v : Byte) (s : State) : (setA v s).timer = s.timer := rfl
@[simp] theorem setA_joypSelect (v : Byte) (s : State) : (setA v s).joypSelect = s.joypSelect := rfl
@[simp] theorem setA_buttons (v : Byte) (s : State) : (setA v s).buttons = s.buttons := rfl
@[simp] theorem setA_sb (v : Byte) (s : State) : (setA v s).sb = s.sb := rfl
@[simp] theorem setA_sc (v : Byte) (s : State) : (setA v s).sc = s.sc := rfl
@[simp] theorem setA_ppu (v : Byte) (s : State) : (setA v s).ppu = s.ppu := rfl
@[simp] theorem setA_apu (v : Byte) (s : State) : (setA v s).apu = s.apu := rfl
@[simp] theorem setA_bootRom (v : Byte) (s : State) : (setA v s).bootRom = s.bootRom := rfl
@[simp] theorem setA_vram (v : Byte) (s : State) : (setA v s).vram = s.vram := rfl
@[simp] theorem setA_wram0 (v : Byte) (s : State) : (setA v s).wram0 = s.wram0 := rfl
@[simp] theorem setA_wram1 (v : Byte) (s : State) : (setA v s).wram1 = s.wram1 := rfl
@[simp] theorem setA_oam (v : Byte) (s : State) : (setA v s).oam = s.oam := rfl
@[simp] theorem setA_hram (v : Byte) (s : State) : (setA v s).hram = s.hram := rfl
@[simp] theorem setA_waveRam (v : Byte) (s : State) : (setA v s).waveRam = s.waveRam := rfl
@[simp] theorem setA_cart (v : Byte) (s : State) : (setA v s).cart = s.cart := rfl
@[simp] theorem setA_params (v : Byte) (s : State) : (setA v s).params = s.params := rfl
@[simp] theorem setA_hostClock (v : Byte) (s : State) : (setA v s).hostClock = s.hostClock := rfl
@[simp] theorem setA_hostInputs (v : Byte) (s : State) : (setA v s).hostInputs = s.hostInputs := rfl

/-! ## `setFlags` -/

@[simp] theorem setFlags_a (f : Flags) (s : State) : (setFlags f s).regs.a = s.regs.a := rfl
@[simp] theorem setFlags_f (f : Flags) (s : State) : (setFlags f s).regs.f = f := rfl
@[simp] theorem setFlags_b (f : Flags) (s : State) : (setFlags f s).regs.b = s.regs.b := rfl
@[simp] theorem setFlags_c (f : Flags) (s : State) : (setFlags f s).regs.c = s.regs.c := rfl
@[simp] theorem setFlags_d (f : Flags) (s : State) : (setFlags f s).regs.d = s.regs.d := rfl
@[simp] theorem setFlags_e (f : Flags) (s : State) : (setFlags f s).regs.e = s.regs.e := rfl
@[simp] theorem setFlags_h (f : Flags) (s : State) : (setFlags f s).regs.h = s.regs.h := rfl
@[simp] theorem setFlags_l (f : Flags) (s : State) : (setFlags f s).regs.l = s.regs.l := rfl
@[simp] theorem setFlags_sp (f : Flags) (s : State) : (setFlags f s).regs.sp = s.regs.sp := rfl
@[simp] theorem setFlags_pc (f : Flags) (s : State) : (setFlags f s).regs.pc = s.regs.pc := rfl
@[simp] theorem setFlags_ime (f : Flags) (s : State) : (setFlags f s).ime = s.ime := rfl
@[simp] theorem setFlags_imePending (f : Flags) (s : State) : (setFlags f s).imePending = s.imePending := rfl
@[simp] theorem setFlags_cpuState (f : Flags) (s : State) : (setFlags f s).cpuState = s.cpuState := rfl
@[simp] theorem setFlags_haltBug (f : Flags) (s : State) : (setFlags f s).haltBug = s.haltBug := rfl
@[simp] theorem setFlags_ie (f : Flags) (s : State) : (setFlags f s).ie = s.ie := rfl
@[simp] theorem setFlags_iflag (f : Flags) (s : State) : (setFlags f s).iflag = s.iflag := rfl
@[simp] theorem setFlags_dma (f : Flags) (s : State) : (setFlags f s).dma = s.dma := rfl
@[simp] theorem setFlags_dmaPending (f : Flags) (s : State) : (setFlags f s).dmaPending = s.dmaPending := rfl
@[simp] theorem setFlags_bootEnabled (f : Flags) (s : State) : (setFlags f s).bootEnabled = s.bootEnabled := rfl
@[simp] theorem setFlags_cpuClock (f : Flags) (s : State) : (setFlags f s).cpuClock = s.cpuClock := rfl
@[simp] theorem setFlags_timer (f : Flags) (s : State) : (setFlags f s).timer = s.timer := rfl
@[simp] theorem setFlags_joypSelect (f : Flags) (s : State) : (setFlags f s).joypSelect = s.joypSelect := rfl
@[simp] theorem setFlags_buttons (f : Flags) (s : State) : (setFlags f s).buttons = s.buttons := rfl
@[simp] theorem setFlags_sb (f : Flags) (s : State) : (setFlags f s).sb = s.sb := rfl
@[simp] theorem setFlags_sc (f : Flags) (s : State) : (setFlags f s).sc = s.sc := rfl
@[simp] theorem setFlags_ppu (f : Flags) (s : State) : (setFlags f s).ppu = s.ppu := rfl
@[simp] theorem setFlags_apu (f : Flags) (s : State) : (setFlags f s).apu = s.apu := rfl
@[simp] theorem setFlags_bootRom (f : Flags) (s : State) : (setFlags f s).bootRom = s.bootRom := rfl
@[simp] theorem setFlags_vram (f : Flags) (s : State) : (setFlags f s).vram = s.vram := rfl
@[simp] theorem setFlags_wram0 (f : Flags) (s : State) : (setFlags f s).wram0 = s.wram0 := rfl
@[simp] theorem setFlags_wram1 (f : Flags) (s : State) : (setFlags f s).wram1 = s.wram1 := rfl
@[simp] theorem setFlags_oam (f : Flags) (s : State) : (setFlags f s).oam = s.oam := rfl
@[simp] theorem setFlags_hram (f : Flags) (s : State) : (setFlags f s).hram = s.hram := rfl
@[simp] theorem setFlags_waveRam (f : Flags) (s : State) : (setFlags f s).waveRam = s.waveRam := rfl
@[simp] theorem setFlags_cart (f : Flags) (s : State) : (setFlags f s).cart = s.cart := rfl
@[simp] theorem setFlags_params (f : Flags) (s : State) : (setFlags f s).params = s.params := rfl
@[simp] theorem setFlags_hostClock (f : Flags) (s : State) : (setFlags f s).hostClock = s.hostClock := rfl
@[simp] theorem setFlags_hostInputs (f : Flags) (s : State) : (setFlags f s).hostInputs = s.hostInputs := rfl

/-! ## `setHl` -/

@[simp] theorem setHl_a (v : Word) (s : State) : (setHl v s).regs.a = s.regs.a := rfl
@[simp] theorem setHl_f (v : Word) (s : State) : (setHl v s).regs.f = s.regs.f := rfl
@[simp] theorem setHl_b (v : Word) (s : State) : (setHl v s).regs.b = s.regs.b := rfl
@[simp] theorem setHl_c (v : Word) (s : State) : (setHl v s).regs.c = s.regs.c := rfl
@[simp] theorem setHl_d (v : Word) (s : State) : (setHl v s).regs.d = s.regs.d := rfl
@[simp] theorem setHl_e (v : Word) (s : State) : (setHl v s).regs.e = s.regs.e := rfl
@[simp] theorem setHl_h (v : Word) (s : State) : (setHl v s).regs.h = highByte v := rfl
@[simp] theorem setHl_l (v : Word) (s : State) : (setHl v s).regs.l = lowByte v := rfl
@[simp] theorem setHl_sp (v : Word) (s : State) : (setHl v s).regs.sp = s.regs.sp := rfl
@[simp] theorem setHl_pc (v : Word) (s : State) : (setHl v s).regs.pc = s.regs.pc := rfl
@[simp] theorem setHl_ime (v : Word) (s : State) : (setHl v s).ime = s.ime := rfl
@[simp] theorem setHl_imePending (v : Word) (s : State) : (setHl v s).imePending = s.imePending := rfl
@[simp] theorem setHl_cpuState (v : Word) (s : State) : (setHl v s).cpuState = s.cpuState := rfl
@[simp] theorem setHl_haltBug (v : Word) (s : State) : (setHl v s).haltBug = s.haltBug := rfl
@[simp] theorem setHl_ie (v : Word) (s : State) : (setHl v s).ie = s.ie := rfl
@[simp] theorem setHl_iflag (v : Word) (s : State) : (setHl v s).iflag = s.iflag := rfl
@[simp] theorem setHl_dma (v : Word) (s : State) : (setHl v s).dma = s.dma := rfl
@[simp] theorem setHl_dmaPending (v : Word) (s : State) : (setHl v s).dmaPending = s.dmaPending := rfl
@[simp] theorem setHl_bootEnabled (v : Word) (s : State) : (setHl v s).bootEnabled = s.bootEnabled := rfl
@[simp] theorem setHl_cpuClock (v : Word) (s : State) : (setHl v s).cpuClock = s.cpuClock := rfl
@[simp] theorem setHl_timer (v : Word) (s : State) : (setHl v s).timer = s.timer := rfl
@[simp] theorem setHl_joypSelect (v : Word) (s : State) : (setHl v s).joypSelect = s.joypSelect := rfl
@[simp] theorem setHl_buttons (v : Word) (s : State) : (setHl v s).buttons = s.buttons := rfl
@[simp] theorem setHl_sb (v : Word) (s : State) : (setHl v s).sb = s.sb := rfl
@[simp] theorem setHl_sc (v : Word) (s : State) : (setHl v s).sc = s.sc := rfl
@[simp] theorem setHl_ppu (v : Word) (s : State) : (setHl v s).ppu = s.ppu := rfl
@[simp] theorem setHl_apu (v : Word) (s : State) : (setHl v s).apu = s.apu := rfl
@[simp] theorem setHl_bootRom (v : Word) (s : State) : (setHl v s).bootRom = s.bootRom := rfl
@[simp] theorem setHl_vram (v : Word) (s : State) : (setHl v s).vram = s.vram := rfl
@[simp] theorem setHl_wram0 (v : Word) (s : State) : (setHl v s).wram0 = s.wram0 := rfl
@[simp] theorem setHl_wram1 (v : Word) (s : State) : (setHl v s).wram1 = s.wram1 := rfl
@[simp] theorem setHl_oam (v : Word) (s : State) : (setHl v s).oam = s.oam := rfl
@[simp] theorem setHl_hram (v : Word) (s : State) : (setHl v s).hram = s.hram := rfl
@[simp] theorem setHl_waveRam (v : Word) (s : State) : (setHl v s).waveRam = s.waveRam := rfl
@[simp] theorem setHl_cart (v : Word) (s : State) : (setHl v s).cart = s.cart := rfl
@[simp] theorem setHl_params (v : Word) (s : State) : (setHl v s).params = s.params := rfl
@[simp] theorem setHl_hostClock (v : Word) (s : State) : (setHl v s).hostClock = s.hostClock := rfl
@[simp] theorem setHl_hostInputs (v : Word) (s : State) : (setHl v s).hostInputs = s.hostInputs := rfl

/-! ## Words and their bytes -/

theorem wordOf_getLsbD (lo hi : Byte) (i : Nat) :
    (wordOf lo hi).getLsbD i = if i < 8 then lo.getLsbD i else hi.getLsbD (i - 8) := by
  have := BitVec.getLsbD_append (x := hi) (y := lo) (i := i)
  simpa [wordOf] using this

@[simp] theorem lowByte_wordOf (lo hi : Byte) : lowByte (wordOf lo hi) = lo := by
  apply BitVec.eq_of_getLsbD_eq
  intro i hi'
  simp only [lowByte, BitVec.getLsbD_extractLsb', wordOf_getLsbD]
  simp [hi']

@[simp] theorem highByte_wordOf (lo hi : Byte) : highByte (wordOf lo hi) = hi := by
  apply BitVec.eq_of_getLsbD_eq
  intro i hi'
  simp only [highByte, BitVec.getLsbD_extractLsb', wordOf_getLsbD]
  simp [hi']

@[simp] theorem wordOf_bytes (w : Word) : wordOf (lowByte w) (highByte w) = w := by
  apply BitVec.eq_of_getLsbD_eq
  intro i hi'
  rw [wordOf_getLsbD]
  simp only [lowByte, highByte, BitVec.getLsbD_extractLsb']
  by_cases h : i < 8
  · simp [h]
  · have e : 8 + (i - 8) = i := by omega
    have e' : i - 8 < 8 := by omega
    simp [h, e, e']

end Sys2Proof.Laws
end

