-- ==== Sys2Proof/Laws/Bus.lean ====
section
/-! SUPPORT. Everything a bus access can do, once: the map's rows, what a store leaves alone, which byte of memory it
reaches, and the invariants it keeps. -/

namespace Sys2Proof.Laws

open Sys2Proof Machine

/-! ## The cartridge -/

theorem mbc3RegisterStore_keeps (c : Cart) (h : HostClock) (m : Mbc3) (a : Nat) (v : Byte) :
    (mbc3RegisterStore c h m a v).1.rom = c.rom ∧ (mbc3RegisterStore c h m a v).1.ram = c.ram ∧
      (mbc3RegisterStore c h m a v).1.cap = c.cap := by
  unfold mbc3RegisterStore
  split
  · exact ⟨rfl, rfl, rfl⟩
  · split <;> exact ⟨rfl, rfl, rfl⟩

/-- A store to the controller's registers changes neither the image, nor RAM, nor the capability. -/
theorem cartRegisterStore_keeps (c : Cart) (h : HostClock) (a : Nat) (v : Byte) :
    (cartRegisterStore c h a v).1.rom = c.rom ∧ (cartRegisterStore c h a v).1.ram = c.ram ∧
      (cartRegisterStore c h a v).1.cap = c.cap := by
  unfold cartRegisterStore
  split
  · exact ⟨rfl, rfl, rfl⟩
  · exact ⟨rfl, rfl, rfl⟩
  · exact mbc3RegisterStore_keeps c h _ a v

/-- A store to the external area that reaches no RAM changes neither the image, nor RAM, nor the capability. -/
theorem noRamStore_keeps (c : Cart) (h : HostClock) (v : Byte) :
    (noRamStore c h v).1.rom = c.rom ∧ (noRamStore c h v).1.ram = c.ram ∧ (noRamStore c h v).1.cap = c.cap := by
  unfold noRamStore
  split
  · split <;> exact ⟨rfl, rfl, rfl⟩
  · exact ⟨rfl, rfl, rfl⟩

/-- Everything a store to the cartridge can do to its memories: nothing but one byte of RAM, where the window reaches
it. -/
theorem cartWrite_cases (c : Cart) (h : HostClock) (a : Nat) (v : Byte) :
    (cartWrite c h a v).1.rom = c.rom ∧ (cartWrite c h a v).1.cap = c.cap ∧
      ((cartWrite c h a v).1.ram = c.ram ∨
        ∃ k, 0x8000 ≤ a ∧ ramWindow c a = some k ∧ cartWrite c h a v = ({ c with ram := c.ram.write k v }, h)) := by
  rcases Nat.lt_or_ge a 0x8000 with ha | ha
  · have := cartRegisterStore_keeps c h a v
    simp only [cartWrite, if_pos ha]
    exact ⟨this.1, this.2.2, .inl this.2.1⟩
  · simp only [cartWrite, if_neg (Nat.not_lt.2 ha), cartExternalStore]
    cases hk : ramWindow c a with
    | some k => exact ⟨rfl, rfl, .inr ⟨k, ha, rfl, rfl⟩⟩
    | none =>
      have := noRamStore_keeps c h v
      exact ⟨this.1, this.2.2, .inl this.2.1⟩

/-- The RAM window lies in RAM. -/
theorem ramWindow_lt {c : Cart} {a k : Nat} (h : ramWindow c a = some k) : k < c.cap.ramSize := by
  unfold ramWindow at h
  split at h
  · split at h
    · cases h
    · rename_i hs
      rw [← Option.some.inj h]
      exact Nat.mod_lt _ (by omega)
  · cases h

/-! ## The rows of the map -/

/-- A row's offset lies in its array. -/
def regionFits : Region → Prop
  | .boot k => k < 256
  | .cart a => a < 0x8000 ∨ (0xA000 ≤ a ∧ a < 0xC000)
  | .vram k => k < 8192
  | .wram0 k => k < 4096
  | .wram1 k => k < 4096
  | .oam k => k < 160
  | .io (.wave k) => k < 16
  | .io _ => True
  | .oamTail => True
  | .hram k => k < 127
  | .ie => True

theorem ioReg_fits (n : Nat) : regionFits (.io (ioReg n)) := by
  unfold ioReg
  split <;> first | trivial | skip
  split
  · simp only [regionFits]
    omega
  · trivial

/-- Every row of the map has its offset in its array. -/
theorem regionOf_fits (boot : Bool) {a : Nat} (h : a < 65536) : regionFits (regionOf boot a) := by
  unfold regionOf
  by_cases c0 : boot = true ∧ a < 0x100
  · rw [if_pos c0]; exact c0.2
  rw [if_neg c0]
  by_cases c1 : a < 0x8000
  · rw [if_pos c1]; exact .inl c1
  rw [if_neg c1]
  by_cases c2 : a < 0xA000
  · rw [if_pos c2]; show _ < _; omega
  rw [if_neg c2]
  by_cases c3 : a < 0xC000
  · rw [if_pos c3]; exact .inr ⟨by omega, by omega⟩
  rw [if_neg c3]
  by_cases c4 : a < 0xD000
  · rw [if_pos c4]; show _ < _; omega
  rw [if_neg c4]
  by_cases c5 : a < 0xE000
  · rw [if_pos c5]; show _ < _; omega
  rw [if_neg c5]
  by_cases c6 : a < 0xF000
  · rw [if_pos c6]; show _ < _; omega
  rw [if_neg c6]
  by_cases c7 : a < 0xFE00
  · rw [if_pos c7]; show _ < _; omega
  rw [if_neg c7]
  by_cases c8 : a < 0xFEA0
  · rw [if_pos c8]; show _ < _; omega
  rw [if_neg c8]
  by_cases c9 : a < 0xFF00
  · rw [if_pos c9]; exact trivial
  rw [if_neg c9]
  by_cases c10 : a < 0xFF80
  · rw [if_pos c10]; exact ioReg_fits _
  rw [if_neg c10]
  by_cases c11 : a < 0xFFFF
  · rw [if_pos c11]; show _ < _; omega
  rw [if_neg c11]
  trivial

/-- The rows of the map, each with its range (R75). -/
theorem regionOf_cases (boot : Bool) {a : Nat} (h : a < 65536) :
    (boot = true ∧ a < 0x100 ∧ regionOf boot a = .boot a) ∨
      ((boot = false ∨ 0x100 ≤ a) ∧ a < 0x8000 ∧ regionOf boot a = .cart a) ∨
      (0x8000 ≤ a ∧ a < 0xA000 ∧ regionOf boot a = .vram (a - 0x8000)) ∨
      (0xA000 ≤ a ∧ a < 0xC000 ∧ regionOf boot a = .cart a) ∨
      (0xC000 ≤ a ∧ a < 0xD000 ∧ regionOf boot a = .wram0 (a - 0xC000)) ∨
      (0xD000 ≤ a ∧ a < 0xE000 ∧ regionOf boot a = .wram1 (a - 0xD000)) ∨
      (0xE000 ≤ a ∧ a < 0xF000 ∧ regionOf boot a = .wram0 (a - 0xE000)) ∨
      (0xF000 ≤ a ∧ a < 0xFE00 ∧ regionOf boot a = .wram1 (a - 0xF000)) ∨
      (0xFE00 ≤ a ∧ a < 0xFEA0 ∧ regionOf boot a = .oam (a - 0xFE00)) ∨
      (0xFEA0 ≤ a ∧ a < 0xFF00 ∧ regionOf boot a = .oamTail) ∨
      (0xFF00 ≤ a ∧ a < 0xFF80 ∧ regionOf boot a = .io (ioReg (a % 0x100))) ∨
      (0xFF80 ≤ a ∧ a < 0xFFFF ∧ regionOf boot a = .hram (a - 0xFF80)) ∨ (a = 0xFFFF ∧ regionOf boot a = .ie) := by
  unfold regionOf
  by_cases c0 : boot = true ∧ a < 0x100
  · rw [if_pos c0]; exact .inl ⟨c0.1, c0.2, rfl⟩
  rw [if_neg c0]
  refine .inr ?_
  by_cases c1 : a < 0x8000
  · rw [if_pos c1]
    refine .inl ⟨?_, c1, rfl⟩
    cases boot
    · exact .inl rfl
    · exact .inr (by simpa using c0)
  rw [if_neg c1]
  refine .inr ?_
  by_cases c2 : a < 0xA000
  · rw [if_pos c2]; exact .inl ⟨by omega, c2, rfl⟩
  rw [if_neg c2]
  refine .inr ?_
  by_cases c3 : a < 0xC000
  · rw [if_pos c3]; exact .inl ⟨by omega, c3, rfl⟩
  rw [if_neg c3]
  refine .inr ?_
  by_cases c4 : a < 0xD000
  · rw [if_pos c4]; exact .inl ⟨by omega, c4, rfl⟩
  rw [if_neg c4]
  refine .inr ?_
  by_cases c5 : a < 0xE000
  · rw [if_pos c5]; exact .inl ⟨by omega, c5, rfl⟩
  rw [if_neg c5]
  refine .inr ?_
  by_cases c6 : a < 0xF000
  · rw [if_pos c6]; exact .inl ⟨by omega, c6, rfl⟩
  rw [if_neg c6]
  refine .inr ?_
  by_cases c7 : a < 0xFE00
  · rw [if_pos c7]; exact .inl ⟨by omega, c7, rfl⟩
  rw [if_neg c7]
  refine .inr ?_
  by_cases c8 : a < 0xFEA0
  · rw [if_pos c8]; exact .inl ⟨by omega, c8, rfl⟩
  rw [if_neg c8]
  refine .inr ?_
  by_cases c9 : a < 0xFF00
  · rw [if_pos c9]; exact .inl ⟨by omega, c9, rfl⟩
  rw [if_neg c9]
  refine .inr ?_
  by_cases c10 : a < 0xFF80
  · rw [if_pos c10]; exact .inl ⟨by omega, c10, rfl⟩
  rw [if_neg c10]
  refine .inr ?_
  by_cases c11 : a < 0xFFFF
  · rw [if_pos c11]; exact .inl ⟨by omega, c11, rfl⟩
  rw [if_neg c11]
  exact .inr ⟨by omega, rfl⟩

/-- The I/O page (R100). -/
theorem regionOf_io (boot : Bool) {a : Nat} (h : 0xFF00 ≤ a) (h' : a < 0xFF80) :
    regionOf boot a = .io (ioReg (a % 0x100)) := by
  unfold regionOf
  repeat rw [if_neg (by omega)]
  exact if_pos h'

/-- A load from the I/O page is the handler's load. -/
theorem busRead_io (s : State) {addr : Word} (h : 0xFF00 ≤ addr.toNat) (h' : addr.toNat < 0xFF80) :
    busRead s addr = ioRead s (ioReg (addr.toNat % 0x100)) := by
  unfold busRead
  rw [regionOf_io _ h h']
  rfl

/-- A store to the I/O page is the handler's store. -/
theorem busWrite_io (s : State) {addr : Word} (v : Byte) (h : 0xFF00 ≤ addr.toNat) (h' : addr.toNat < 0xFF80) :
    busWrite addr v s = ioWrite (ioReg (addr.toNat % 0x100)) v s := by
  unfold busWrite
  rw [regionOf_io _ h h']
  rfl

/-! ## What a store leaves alone -/

/-- What no store reaches: the CPU registers and control state, the clock, the host, and what is fixed at load. -/
def KeepsCpu (s t : State) : Prop := t.regs = s.regs ∧ KeepsControl s t ∧ SameBuild s t

theorem KeepsCpu.refl (s : State) : KeepsCpu s s := by simp [KeepsCpu, KeepsControl, SameBuild]

theorem KeepsCpu.trans {s t u : State} (h : KeepsCpu s t) (g : KeepsCpu t u) : KeepsCpu s u := by
  simp only [KeepsCpu, KeepsControl, SameBuild] at *
  simp [g, h]

theorem ioWrite_cpu (r : IoReg) (v : Byte) (s : State) : KeepsCpu s (ioWrite r v s) := by
  cases r <;> exact ⟨rfl, ⟨rfl, rfl, rfl, rfl, rfl, rfl, rfl, rfl⟩, rfl, rfl, rfl, rfl⟩

theorem storeCart_cpu (a : Nat) (v : Byte) (s : State) : KeepsCpu s (storeCart a v s) :=
  have h := cartWrite_cases s.cart s.hostClock a v
  ⟨rfl, ⟨rfl, rfl, rfl, rfl, rfl, rfl, rfl, rfl⟩, rfl, rfl, h.1, h.2.1⟩

theorem regionWrite_cpu (r : Region) (v : Byte) (s : State) : KeepsCpu s (regionWrite r v s) := by
  cases r
  case boot a => exact storeCart_cpu a v s
  case cart a => exact storeCart_cpu a v s
  case vram k => simp only [regionWrite]; split <;> exact ⟨rfl, ⟨rfl, rfl, rfl, rfl, rfl, rfl, rfl, rfl⟩, rfl, rfl, rfl, rfl⟩
  case oam k => simp only [regionWrite]; split <;> exact ⟨rfl, ⟨rfl, rfl, rfl, rfl, rfl, rfl, rfl, rfl⟩, rfl, rfl, rfl, rfl⟩
  case io r => exact ioWrite_cpu r v s
  all_goals exact ⟨rfl, ⟨rfl, rfl, rfl, rfl, rfl, rfl, rfl, rfl⟩, rfl, rfl, rfl, rfl⟩

/-- A store reaches no CPU register, no control state and nothing that is fixed at load. -/
theorem busWrite_cpu (addr : Word) (v : Byte) (s : State) : KeepsCpu s (busWrite addr v s) := regionWrite_cpu _ v s

@[simp] theorem busWrite_regs (addr : Word) (v : Byte) (s : State) : (busWrite addr v s).regs = s.regs :=
  (busWrite_cpu addr v s).1

@[simp] theorem busWrite_ime (addr : Word) (v : Byte) (s : State) : (busWrite addr v s).ime = s.ime :=
  (busWrite_cpu addr v s).2.1.1

@[simp] theorem busWrite_imePending (addr : Word) (v : Byte) (s : State) :
    (busWrite addr v s).imePending = s.imePending := (busWrite_cpu addr v s).2.1.2.1

@[simp] theorem busWrite_haltBug (addr : Word) (v : Byte) (s : State) : (busWrite addr v s).haltBug = s.haltBug :=
  (busWrite_cpu addr v s).2.1.2.2.1

@[simp] theorem busWrite_cpuState (addr : Word) (v : Byte) (s : State) : (busWrite addr v s).cpuState = s.cpuState :=
  (busWrite_cpu addr v s).2.1.2.2.2.1

@[simp] theorem busWrite_cpuClock (addr : Word) (v : Byte) (s : State) : (busWrite addr v s).cpuClock = s.cpuClock :=
  (busWrite_cpu addr v s).2.1.2.2.2.2.1

@[simp] theorem busWrite_params (addr : Word) (v : Byte) (s : State) : (busWrite addr v s).params = s.params :=
  (busWrite_cpu addr v s).2.1.2.2.2.2.2.1

@[simp] theorem busWrite_buttons (addr : Word) (v : Byte) (s : State) : (busWrite addr v s).buttons = s.buttons :=
  (busWrite_cpu addr v s).2.1.2.2.2.2.2.2.1

@[simp] theorem busWrite_hostInputs (addr : Word) (v : Byte) (s : State) :
    (busWrite addr v s).hostInputs = s.hostInputs := (busWrite_cpu addr v s).2.1.2.2.2.2.2.2.2

@[simp] theorem busWrite_bootRom (addr : Word) (v : Byte) (s : State) : (busWrite addr v s).bootRom = s.bootRom :=
  (busWrite_cpu addr v s).2.2.2.1

/-! ## Which byte of memory a store reaches -/

theorem ioWrite_cell {r : IoReg} {v : Byte} {s : State} {c : MemoryCell} (h : regionCell s.cart (.io r) ≠ some c) :
    cellRead c (ioWrite r v s) = cellRead c s := by
  cases r
  case wave k =>
    cases c
    case waveRam j =>
      have hk : k ≠ j := fun e => h (by simp [regionCell, e])
      exact memory_read_write_other s.waveRam v hk
    all_goals rfl
  all_goals cases c <;> rfl

theorem storeCart_cell {a : Nat} {v : Byte} {s : State} {c : MemoryCell}
    (h : 0x8000 ≤ a → (ramWindow s.cart a).map MemoryCell.cartRam ≠ some c) :
    cellRead c (storeCart a v s) = cellRead c s := by
  obtain ⟨hrom, -, hram⟩ := cartWrite_cases s.cart s.hostClock a v
  cases c
  case cartRom k => simp only [cellRead, storeCart, hrom]
  case cartRam j =>
    rcases hram with hram | ⟨k, ha, hk, hw⟩
    · simp only [cellRead, storeCart, hram]
    · simp only [cellRead, storeCart, hw]
      refine memory_read_write_other s.cart.ram v fun e => ?_
      exact h ha (by rw [hk, e]; rfl)
  all_goals rfl

theorem regionWrite_cell {r : Region} {v : Byte} {s : State} {c : MemoryCell} (h : regionCell s.cart r ≠ some c)
    (hb : ∀ k, r = .boot k → k < 256) : cellRead c (regionWrite r v s) = cellRead c s := by
  cases r
  case boot a =>
    refine storeCart_cell fun ha => ?_
    have := hb a rfl
    omega
  case cart a =>
    refine storeCart_cell fun ha => ?_
    simpa [regionCell, Nat.not_lt.2 ha] using h
  case vram k =>
    simp only [regionWrite]
    split
    · cases c
      case vram j => exact memory_read_write_other s.vram v fun e => h (by simp [regionCell, e])
      all_goals rfl
    · rfl
  case oam k =>
    simp only [regionWrite]
    split
    · cases c
      case oam j => exact memory_read_write_other s.oam v fun e => h (by simp [regionCell, e])
      all_goals rfl
    · rfl
  case wram0 k =>
    cases c
    case wram0 j => exact memory_read_write_other s.wram0 v fun e => h (by simp [regionCell, e])
    all_goals rfl
  case wram1 k =>
    cases c
    case wram1 j => exact memory_read_write_other s.wram1 v fun e => h (by simp [regionCell, e])
    all_goals rfl
  case hram k =>
    cases c
    case hram j => exact memory_read_write_other s.hram v fun e => h (by simp [regionCell, e])
    all_goals rfl
  case io r => exact ioWrite_cell h
  all_goals cases c <;> rfl

/-- A store changes no byte of memory but the one its address stands for. -/
theorem busWrite_cell (addr : Word) (v : Byte) (s : State) : KeepsMemoryBut addr s (busWrite addr v s) := fun c h =>
  regionWrite_cell h fun k hk => by
    have := regionOf_fits s.bootEnabled addr.isLt
    rw [hk] at this
    exact this

/-- A store changes `IE` only at its own address. -/
theorem busWrite_ie {addr : Word} (v : Byte) (s : State) (h : addr ≠ 0xFFFF) : (busWrite addr v s).ie = s.ie := by
  have hne : addr.toNat ≠ 0xFFFF := fun e => h (BitVec.eq_of_toNat_eq e)
  have hr : regionOf s.bootEnabled addr.toNat ≠ .ie := fun e => by
    have := regionOf_cases s.bootEnabled addr.isLt
    simp [e, hne] at this
  unfold busWrite
  generalize regionOf s.bootEnabled addr.toNat = r at hr
  cases r
  case ie => exact absurd rfl hr
  case vram k => simp only [regionWrite]; split <;> rfl
  case oam k => simp only [regionWrite]; split <;> rfl
  case io r => cases r <;> rfl
  all_goals rfl

/-- A store to an address that is no register of a device leaves the devices alone. -/
theorem busWrite_devices {addr : Word} (v : Byte) {s : State} (h : isPlainTarget s addr = true) :
    KeepsDevices s (busWrite addr v s) := by
  unfold isPlainTarget at h
  unfold busWrite KeepsDevices
  generalize regionOf s.bootEnabled addr.toNat = r at h
  cases r
  case boot k => cases h
  case vram k => simp only [regionWrite]; split <;> simp
  case oam k => simp only [regionWrite]; split <;> simp
  case io r =>
    cases r
    case wave k => simp [regionWrite, ioWrite]
    all_goals cases h
  all_goals simp [regionWrite, storeCart]

/-- What one store leaves alone. -/
theorem busWrite_frame (addr : Word) (v : Byte) (s : State) : StoreFrame addr s (busWrite addr v s) :=
  ⟨(busWrite_cpu addr v s).2.1, (busWrite_cpu addr v s).2.2, busWrite_cell addr v s, busWrite_ie v s,
    busWrite_devices v⟩

/-- A store, with its frame. -/
theorem busWrite_result (addr : Word) (v : Byte) (s : State) : StoreResult addr v s (busWrite addr v s) :=
  ⟨rfl, busWrite_regs addr v s, busWrite_frame addr v s⟩

/-! ## The cartridge window after a store that is not to the controller's registers -/

theorem rtcSetStopped_keeps (now : Int) (stop : Bool) (m : Mbc3) :
    (rtcSetStopped now stop m).ramEnable = m.ramEnable ∧ (rtcSetStopped now stop m).romBank = m.romBank ∧
      (rtcSetStopped now stop m).ramRtcSelect = m.ramRtcSelect ∧
      (rtcSetStopped now stop m).rtcLatched = m.rtcLatched := by
  unfold rtcSetStopped
  split <;> simp

/-- A store to an RTC register moves the hidden time only: neither the mapping nor the latched snapshot. -/
theorem rtcWrite_keeps (now : Int) (k : Nat) (v : Byte) (m : Mbc3) :
    (rtcWrite now k v m).ramEnable = m.ramEnable ∧ (rtcWrite now k v m).romBank = m.romBank ∧
      (rtcWrite now k v m).ramRtcSelect = m.ramRtcSelect ∧ (rtcWrite now k v m).rtcLatched = m.rtcLatched := by
  unfold rtcWrite
  dsimp only
  split
  · exact rtcSetStopped_keeps _ _ { m with rtcStartTime := _, rtcCarry := _ }
  · simp

/-- The mapping and the latched snapshot are the same. -/
def SameWindow (c d : Cart) : Prop :=
  (∀ a, ramWindow d a = ramWindow c a) ∧ (∀ a, romOffset d a = romOffset c a) ∧ noRamRead d = noRamRead c

theorem noRamStore_window (c : Cart) (h : HostClock) (v : Byte) : SameWindow c (noRamStore c h v).1 := by
  obtain ⟨cap, rom, ram, ctrl⟩ := c
  unfold noRamStore
  cases ctrl
  case mbc3 m =>
    dsimp only
    split
    · rename_i k hk
      obtain ⟨e1, e2, e3, e4⟩ := rtcWrite_keeps (sampleClockTime h).now k v m
      refine ⟨fun a => ?_, fun a => ?_, ?_⟩
      · simp only [ramWindow, mappedRamBank, e1, e3]
      · show (if a < 0x4000 then a
          else 0x4000 * effectiveBank cap.romBankCount (rtcWrite (sampleClockTime h).now k v m).romBank.toNat +
            (a - 0x4000)) = _
        rw [e2]
        rfl
      · simp only [noRamRead, rtcWindow, e1, e3, e4]
    · exact ⟨fun _ => rfl, fun _ => rfl, rfl⟩
  all_goals exact ⟨fun _ => rfl, fun _ => rfl, rfl⟩

/-- A store to the external area keeps the mapping. -/
theorem cartExternalStore_window (c : Cart) (h : HostClock) (a : Nat) (v : Byte) :
    SameWindow c (cartExternalStore c h a v).1 := by
  unfold cartExternalStore
  cases ramWindow c a
  · exact noRamStore_window c h v
  · exact ⟨fun _ => rfl, fun _ => rfl, rfl⟩

/-- A store to an address that is no register of the controller or of a device keeps the cartridge's mapping. -/
theorem busWrite_window {addr : Word} (v : Byte) {s : State} (h : isPlainTarget s addr = true) :
    SameWindow s.cart (busWrite addr v s).cart := by
  unfold isPlainTarget at h
  unfold busWrite
  generalize regionOf s.bootEnabled addr.toNat = r at h
  cases r
  case boot k => cases h
  case cart a =>
    have ha : 0x8000 ≤ a := by simpa using h
    simp only [regionWrite, storeCart, cartWrite, if_neg (Nat.not_lt.2 ha)]
    exact cartExternalStore_window _ _ _ _
  case vram k => simp only [regionWrite]; split <;> exact ⟨fun _ => rfl, fun _ => rfl, rfl⟩
  case oam k => simp only [regionWrite]; split <;> exact ⟨fun _ => rfl, fun _ => rfl, rfl⟩
  case io r => cases r <;> exact ⟨fun _ => rfl, fun _ => rfl, rfl⟩
  all_goals exact ⟨fun _ => rfl, fun _ => rfl, rfl⟩

/-! ## The canonical form -/

theorem isArray_write {n : Nat} {m : Memory} {k : Nat} (v : Byte) (hk : k < n) (h : IsArray n m) :
    IsArray n (m.write k v) := ⟨memory_wf_write k v h.1, memory_within_write v hk h.2⟩

theorem regionWrite_memoryInv {r : Region} {v : Byte} {s : State} (hr : regionFits r) (h : MemoryInv s) :
    MemoryInv (regionWrite r v s) := by
  have store : ∀ a, MemoryInv (storeCart a v s) := fun a => by
    obtain ⟨h1, h2, h3, h4, h5, h6, h7⟩ := h
    refine ⟨h1, h2, h3, h4, h5, h6, ?_⟩
    obtain ⟨-, hcap, hram | ⟨k, -, hk, hw⟩⟩ := cartWrite_cases s.cart s.hostClock a v
    · simp only [storeCart, hcap, hram]
      exact h7
    · simp only [storeCart, hw]
      exact isArray_write v (ramWindow_lt hk) h7
  cases r
  case boot a => exact store a
  case cart a => exact store a
  case vram k =>
    simp only [regionWrite]
    split
    · exact ⟨isArray_write v hr h.1, h.2⟩
    · exact h
  case oam k =>
    simp only [regionWrite]
    split
    · exact ⟨h.1, h.2.1, h.2.2.1, isArray_write v hr h.2.2.2.1, h.2.2.2.2⟩
    · exact h
  case wram0 k => exact ⟨h.1, isArray_write v hr h.2.1, h.2.2⟩
  case wram1 k => exact ⟨h.1, h.2.1, isArray_write v hr h.2.2.1, h.2.2.2⟩
  case hram k => exact ⟨h.1, h.2.1, h.2.2.1, h.2.2.2.1, isArray_write v hr h.2.2.2.2.1, h.2.2.2.2.2⟩
  case io r =>
    cases r
    case wave k =>
      exact ⟨h.1, h.2.1, h.2.2.1, h.2.2.2.1, h.2.2.2.2.1, isArray_write v hr h.2.2.2.2.2.1, h.2.2.2.2.2.2⟩
    all_goals exact h
  all_goals exact h

/-- A store keeps every memory in canonical form. -/
theorem busWrite_memoryInv (addr : Word) (v : Byte) {s : State} (h : MemoryInv s) : MemoryInv (busWrite addr v s) :=
  regionWrite_memoryInv (regionOf_fits s.bootEnabled addr.isLt) h

/-- The reset memories are canonical. -/
theorem reset_memoryInv : MemoryInv State.reset := by
  unfold MemoryInv IsArray
  decide

end Sys2Proof.Laws
end

