-- ==== Sys2Proof/Laws/Cost.lean ====
section
/-! SUPPORT. What the parameter `COST` is asked about, and what it answers by default. -/

namespace Sys2Proof.Laws

open Sys2Proof Machine

/-- The key of a base-page instruction is its opcode. -/
theorem costKey_base {i : Instr} {op : Byte} {rest : List Byte} (h : encode i = op :: rest) (hop : op ≠ 0xCB)
    (s : State) : costKey i s = (op, false) := by
  unfold costKey
  rw [h]
  cases rest <;> exact if_neg hop

/-- The key of a CB-page instruction is its second byte. -/
theorem costKey_cb {i : Instr} {op : Byte} (h : encode i = [0xCB, op]) (s : State) : costKey i s = (op, true) := by
  unfold costKey
  rw [h]
  rfl

/-- Under the default `COST`, an instruction costs what the tables say for its key. -/
theorem instrCost_default {s : State} (h : s.params.costChanges = []) (i : Instr) :
    instrCost i s =
      defaultCost (costKey i s).1 (costKey i s).2 (isTaken (costKey i s).1 (costKey i s).2 s.regs.f) := by
  unfold instrCost
  rw [h]
  rfl

end Sys2Proof.Laws
end

