-- ==== Sys2Proof/Laws/Ops.lean ====
section
/-! SUPPORT. One lemma per shared operation, saying once everything it can do. -/

namespace Sys2Proof.Laws

open Sys2Proof Machine

/-! ## Stores and the register file -/

theorem regionWrite_setRegs (r : Region) (v : Byte) (s : State) (g : Regs) :
    regionWrite r v (setRegs s g) = setRegs (regionWrite r v s) g := by
  cases r
  case vram k => cases h : s.ppu.vramAccess <;> simp [regionWrite, h, setRegs]
  case oam k => cases h : s.ppu.oamAccess <;> simp [regionWrite, h, setRegs]
  case io r => cases r <;> rfl
  all_goals rfl

/-- A store does not look at the CPU registers. -/
@[simp] theorem busWrite_setRegs (a : Word) (v : Byte) (s : State) (g : Regs) :
    busWrite a v (setRegs s g) = setRegs (busWrite a v s) g := regionWrite_setRegs _ v s g

@[simp] theorem setRegs_setRegs (s : State) (g g' : Regs) : setRegs (setRegs s g) g' = setRegs s g' := rfl

@[simp] theorem setRegs_self (s : State) : setRegs s s.regs = s := rfl

/-- A load does not look at the CPU registers. -/
@[simp] theorem busRead_setRegs (s : State) (g : Regs) (a : Word) : busRead (setRegs s g) a = busRead s a := rfl

theorem setPc_eq (v : Word) (s : State) : setPc v s = setRegs s { s.regs with pc := v } := rfl
theorem setSp_eq (v : Word) (s : State) : setSp v s = setRegs s { s.regs with sp := v } := rfl
theorem setA_eq (v : Byte) (s : State) : setA v s = setRegs s { s.regs with a := v } := rfl
theorem setFlags_eq (f : Flags) (s : State) : setFlags f s = setRegs s { s.regs with f := f } := rfl
theorem setHl_eq (v : Word) (s : State) :
    setHl v s = setRegs s { s.regs with h := highByte v, l := lowByte v } := rfl

/-! ## Fetch -/

/-- What a fetch leaves: `pc` past the instruction, the halt quirk consumed, nothing else. -/
theorem afterFetch_eq (i : Instr) (s : State) :
    afterFetch i s =
      { setPc (operandAddress s + BitVec.ofNat 16 ((encode i).length - 1)) s with haltBug := false } := rfl

@[simp] theorem afterFetch_imePending (i : Instr) (s : State) : (afterFetch i s).imePending = s.imePending := rfl
@[simp] theorem afterFetch_ime (i : Instr) (s : State) : (afterFetch i s).ime = s.ime := rfl
@[simp] theorem afterFetch_haltBug (i : Instr) (s : State) : (afterFetch i s).haltBug = false := rfl
@[simp] theorem afterFetch_cpuState (i : Instr) (s : State) : (afterFetch i s).cpuState = s.cpuState := rfl
@[simp] theorem afterFetch_params (i : Instr) (s : State) : (afterFetch i s).params = s.params := rfl

/-! ## Operands -/

/-- Writing a register operand changes that register and nothing else. -/
theorem setOperand8_reg {o : Operand8} (h : o ≠ .atHl) (v : Byte) (s : State) :
    OnlyRegs s (setOperand8 o v s) ∧ getOperand8 o (setOperand8 o v s) = v ∧ Keeps8 [o] s (setOperand8 o v s) ∧
      (setOperand8 o v s).regs.f = s.regs.f ∧ KeepsPointers s (setOperand8 o v s) := by
  cases o
  case atHl => exact absurd rfl h
  all_goals
    refine ⟨rfl, rfl, fun p hp hc => ?_, rfl, rfl, rfl⟩
    cases p <;> first | rfl | exact absurd rfl hp | exact absurd (by simp) hc

/-- Writing the memory operand is a store at `HL`. -/
@[simp] theorem setOperand8_atHl (v : Byte) (s : State) : setOperand8 .atHl v s = busWrite s.regs.hl v s := rfl

@[simp] theorem getOperand8_atHl (s : State) : getOperand8 .atHl s = busRead s s.regs.hl := rfl

/-- A pair reads back what was written to it. -/
theorem getPair_setPair (p : Pair) (v : Word) (s : State) : getPair p (setPair p v s) = v := by
  cases p <;> simp [getPair, setPair, Regs.bc, Regs.de, Regs.hl]

/-- Writing a pair keeps the others. -/
theorem getPair_setPair_other {p q : Pair} (h : q ≠ p) (v : Word) (s : State) :
    getPair q (setPair p v s) = getPair q s := by
  cases p <;> cases q <;> first | rfl | exact absurd rfl h

@[simp] theorem setHl_hl (v : Word) (s : State) : (setHl v s).regs.hl = v := wordOf_bytes v

/-- A word as a number. -/
theorem wordOf_toNat (lo hi : Byte) : (wordOf lo hi).toNat = hi.toNat * 256 + lo.toNat := by
  have h := lo.isLt
  show (hi ++ lo).toNat = _
  rw [BitVec.toNat_append, ← Nat.shiftLeft_add_eq_or_of_lt h hi.toNat, Nat.shiftLeft_eq]

/-- The address `0xFF00 + b`, exactly. -/
theorem highPage_eq (n : Byte) : highPage n = BitVec.ofNat 16 (0xFF00 + n.toNat) := by
  have := n.isLt
  apply BitVec.eq_of_toNat_eq
  simp [highPage, zext16]

/-- A signed displacement, added exactly and wrapped. -/
theorem add_sext16 (w : Word) (n : Byte) : w + sext16 n = BitVec.ofInt 16 (w.toNat + n.toInt) := by
  apply BitVec.eq_of_toInt_eq
  rw [BitVec.toInt_add, sext16, BitVec.toInt_signExtend_of_le (by decide), BitVec.toInt_ofInt,
    BitVec.toInt_eq_toNat_bmod]
  simp

/-- Writing a pair changes nothing but registers. -/
theorem setPair_onlyRegs (p : Pair) (v : Word) (s : State) : OnlyRegs s (setPair p v s) := by cases p <;> rfl

/-! ## Stack -/

/-- A push: two stores below `SP`, and `SP` down by 2. -/
theorem push16_eq (v : Word) (s : State) :
    push16 v s =
      setSp (s.regs.sp - 2) (busWrite (s.regs.sp - 2) (lowByte v) (busWrite (s.regs.sp - 1) (highByte v) s)) := by
  simp [push16, setSp_eq]

/-- What a push leaves alone. -/
theorem push16_cpu (v : Word) (s : State) :
    (push16 v s).regs = { s.regs with sp := s.regs.sp - 2 } ∧ KeepsControl s (push16 v s) ∧
      SameBuild s (push16 v s) := by
  rw [push16_eq]
  have h := (busWrite_cpu (s.regs.sp - 1) (highByte v) s).trans
    (busWrite_cpu (s.regs.sp - 2) (lowByte v) (busWrite (s.regs.sp - 1) (highByte v) s))
  exact ⟨by simp [setSp_eq], h.2.1, h.2.2⟩

/-- A push, with its frame. -/
theorem push16_result (v : Word) (s : State) : PushResult v s (push16 v s) := by
  refine ⟨_, rfl, busWrite_frame _ _ _, ?_, ?_⟩
  · rw [push16_eq]
    simp [setSp_eq, setRegs]
  · rw [push16_eq]
    exact busWrite_frame (s.regs.sp - 2) (lowByte v) (busWrite (s.regs.sp - 1) (highByte v) s)

/-- A pop moves `SP` and nothing else. -/
theorem pop16_eq (s : State) : pop16 s = setSp (s.regs.sp + 2) s := rfl

/-! ## Interrupts -/

/-- Everything an interrupt entry does. -/
theorem interruptEntry_eq (n : Nat) (s : State) :
    interruptEntry n s =
      { setPc (interruptVector n) (push16 s.regs.pc s) with
        ime := false, imePending := false
        iflag := (push16 s.regs.pc s).iflag &&& ~~~(BitVec.ofNat 5 (2 ^ n)) } := rfl

/-- The lowest source of a non-empty set is in it, and none below it is. -/
theorem lowestSource_spec (p : BitVec 5) (h : p ≠ 0) :
    lowestSource p < 5 ∧ p.getLsbD (lowestSource p) = true ∧ ∀ j < lowestSource p, p.getLsbD j = false := by
  revert h
  revert p
  decide

/-! ## DMA -/

/-- Everything the DMA part of a step does. -/
theorem runDma_cases (s : State) :
    (s.dmaPending = false ∧ runDma s = s) ∨
      (s.dmaPending = true ∧ s.dma = 0xFE ∧ runDma s = { s with cpuState := .faulted (.dmaOverlap 0xFE) }) ∨
      (s.dmaPending = true ∧ s.dma ≠ 0xFE ∧
        runDma s = { s with oam := Memory.ofBytes 0 (dmaBytes s), dmaPending := false }) := by
  by_cases hp : s.dmaPending = true
  · by_cases hd : s.dma = 0xFE
    · refine .inr (.inl ⟨hp, hd, ?_⟩)
      rw [runDma, if_neg (by simp [hp]), if_pos hd, raiseFatal, hd]
    · refine .inr (.inr ⟨hp, hd, ?_⟩)
      rw [runDma, if_neg (by simp [hp]), if_neg hd, dmaCopy]
  · refine .inl ⟨by simpa using hp, ?_⟩
    rw [runDma, if_pos (by simpa using hp)]

@[simp] theorem dmaBytes_length (s : State) : (dmaBytes s).length = 160 := by simp [dmaBytes]

end Sys2Proof.Laws
end

