-- ==== Sys2Proof/Laws/Cycle.lean ====
section
/-! SUPPORT. What the clock advance can do: one lemma per device step, the frame of a machine cycle and of an advance,
and the device invariants they keep. -/

namespace Sys2Proof.Laws

open Sys2Proof Machine

/-! ## Frames -/

/-- Only the clock, the timer, the PPU, the APU and `IF` differ: what the clock advance may change. -/
def OnlyDevices (s t : State) : Prop :=
  t = { s with cpuClock := t.cpuClock, timer := t.timer, iflag := t.iflag, ppu := t.ppu, apu := t.apu }

theorem OnlyDevices.refl (s : State) : OnlyDevices s s := rfl

theorem OnlyDevices.trans {s t u : State} (h : OnlyDevices s t) (g : OnlyDevices t u) : OnlyDevices s u := by
  unfold OnlyDevices at *
  rw [g, h]

/-- A PPU step changes the PPU and `IF`. -/
theorem ppuStep_frame (s : State) : ppuStep s = { s with ppu := (ppuStep s).ppu, iflag := (ppuStep s).iflag } := by
  unfold ppuStep
  split
  · rfl
  · split
    · rfl
    · dsimp only
      split <;> rfl

theorem machineCycle_frame (s : State) : OnlyDevices s (machineCycle s) := by
  unfold OnlyDevices machineCycle apuStep
  have h := ppuStep_frame (timerStep { s with cpuClock := s.cpuClock + 4 })
  generalize ppuStep (timerStep { s with cpuClock := s.cpuClock + 4 }) = p at h
  rw [h]
  rfl

theorem machineCycle_cpuClock (s : State) : (machineCycle s).cpuClock = s.cpuClock + 4 := by
  unfold machineCycle apuStep
  rw [ppuStep_frame]
  rfl

theorem machineCycle_timer (s : State) : (machineCycle s).timer = timerTick s.timer := by
  unfold machineCycle apuStep
  rw [ppuStep_frame]
  rfl

theorem machineCycle_apu (s : State) : (machineCycle s).apu = apuTick s.waveRam s.apu := by
  unfold machineCycle apuStep
  rw [ppuStep_frame]
  rfl

@[simp] theorem advanceClock_zero (s : State) : advanceClock 0 s = s := rfl

/-- The clock advance is machine cycle by machine cycle (R362). -/
theorem advanceClock_succ (n : Nat) (s : State) : advanceClock (n + 1) s = advanceClock n (machineCycle s) := rfl

/-- An invariant that a machine cycle keeps is kept by the whole clock advance. -/
theorem advanceClock_induct {P : State → Prop} (h : ∀ s, P s → P (machineCycle s)) :
    ∀ (n : Nat) {s : State}, P s → P (advanceClock n s)
  | 0, _, hs => hs
  | n + 1, s, hs => advanceClock_induct h n (h s hs)

/-- The clock advance changes the clock, the timer, the PPU, the APU and `IF`. -/
theorem advanceClock_frame (n : Nat) (s : State) : OnlyDevices s (advanceClock n s) :=
  advanceClock_induct (P := OnlyDevices s) (fun t h => h.trans (machineCycle_frame t)) n (.refl s)

/-- The clock advances by 4 per machine cycle. -/
theorem advanceClock_cpuClock (n : Nat) (s : State) : (advanceClock n s).cpuClock = s.cpuClock + 4 * n := by
  induction n generalizing s with
  | zero => rfl
  | succ n ih =>
    rw [advanceClock_succ, ih, machineCycle_cpuClock]
    omega

/-- The timer runs one step per machine cycle. -/
theorem advanceClock_timer (n : Nat) (s : State) : (advanceClock n s).timer = iterate timerTick n s.timer := by
  induction n generalizing s with
  | zero => rfl
  | succ n ih =>
    rw [advanceClock_succ, ih, machineCycle_timer]
    rfl

/-! ## The timer -/

/-- Everything an evaluation does. -/
theorem timerEvaluate_cases (t : Timer) :
    (timerEdge t = false ∧ timerEvaluate t = { t with divLast := t.div }) ∨
      (timerEdge t = true ∧ t.tima = 0xFF ∧
        timerEvaluate t = { t with tima := 0x00, overflow := true, divLast := t.div }) ∨
      (timerEdge t = true ∧ t.tima ≠ 0xFF ∧ timerEvaluate t = { t with tima := t.tima + 1, divLast := t.div }) := by
  cases he : timerEdge t
  · exact .inl ⟨rfl, by simp [timerEvaluate, he]⟩
  · by_cases h : t.tima = 0xFF
    · exact .inr (.inl ⟨rfl, h, by simp [timerEvaluate, he, h]⟩)
    · refine .inr (.inr ⟨rfl, h, ?_⟩)
      have h' : decide (t.tima = 0xFF) = false := by simpa using h
      simp only [timerEvaluate, he, h', if_true, Bool.true_and, Bool.false_or]

/-- An evaluation adds its edge to `TIMA`. -/
theorem timerEvaluate_eq (t : Timer) :
    timerEvaluate t =
      { t with
        tima := BitVec.ofNat 8 (t.tima.toNat + (timerEdge t).toNat)
        overflow := (timerEdge t && decide (t.tima = 0xFF)) || t.overflow
        divLast := t.div } := by
  unfold timerEvaluate
  congr 1
  cases timerEdge t
  · simp
  · apply BitVec.eq_of_toNat_eq
    simp

@[simp] theorem timerEvaluate_div (t : Timer) : (timerEvaluate t).div = t.div := rfl
@[simp] theorem timerEvaluate_divLast (t : Timer) : (timerEvaluate t).divLast = t.div := rfl
@[simp] theorem timerEvaluate_tma (t : Timer) : (timerEvaluate t).tma = t.tma := rfl
@[simp] theorem timerEvaluate_tac (t : Timer) : (timerEvaluate t).tac = t.tac := rfl
@[simp] theorem timerTick_div (t : Timer) : (timerTick t).div = t.div + 4 := rfl
@[simp] theorem timerTick_divLast (t : Timer) : (timerTick t).divLast = t.div + 4 := rfl

/-! ## The lcd-stat line -/

/-- Everything `StatUpdate` does. -/
theorem statUpdate_eq (s : State) :
    statUpdate s =
      { s with
        ppu := { s.ppu with statLine := newStatLine s.ppu }
        iflag := requestInterrupt 1 (!s.ppu.statLine && newStatLine s.ppu) s.iflag } := rfl

/-- Everything a PPU step does. -/
theorem ppuStep_cases (s : State) :
    ppuStep s = s ∨
      ∃ line mode, displayOn s.ppu = true ∧ s.ppu.displayEnableTime ≤ s.cpuClock ∧
        (line, mode) = schedule s.params.mode3Len (s.cpuClock - s.ppu.displayEnableTime) ∧
        ¬(line = s.ppu.line ∧ mode = s.ppu.mode) ∧
        ppuStep s =
          statUpdate
            { s with
              ppu := enterMode line mode s.vram s.oam s.ppu
              iflag := requestInterrupt 0 (entersVblank line mode) s.iflag } := by
  unfold ppuStep
  split
  · exact .inl rfl
  · split
    · exact .inl rfl
    · dsimp only
      split
      · exact .inl rfl
      · rename_i h1 h2 h3
        exact .inr ⟨_, _, by simpa using h1, by omega, rfl, h3, rfl⟩

/-- Entering a mode sets line, mode and gates, and keeps the registers and the lcd-stat line. -/
theorem enterMode_fields (line : Nat) (mode : PpuMode) (vram oam : Memory) (p : Ppu) :
    (enterMode line mode vram oam p).line = line ∧ (enterMode line mode vram oam p).mode = mode ∧
      (enterMode line mode vram oam p).vramAccess = vramGate mode ∧
      (enterMode line mode vram oam p).oamAccess = oamGate mode ∧
      (enterMode line mode vram oam p).lcdc = p.lcdc ∧
      (enterMode line mode vram oam p).statEnables = p.statEnables ∧
      (enterMode line mode vram oam p).lyc = p.lyc ∧
      (enterMode line mode vram oam p).statLine = p.statLine ∧
      (enterMode line mode vram oam p).displayEnableTime = p.displayEnableTime := by
  unfold enterMode publishFrame renderLine
  cases mode <;> dsimp only
  case vblank =>
    split
    · split <;> simp
    · simp
  all_goals simp

/-! ## The APU -/

/-- Running the sample clock changes nothing but the output side. -/
theorem emitSample_frame (a : Apu) :
    emitSample a =
      { a with
        capLeft := (emitSample a).capLeft, capRight := (emitSample a).capRight
        frame := (emitSample a).frame, published := (emitSample a).published } := rfl

theorem iterate_emitSample_frame (n : Nat) (a : Apu) :
    iterate emitSample n a =
      { a with
        capLeft := (iterate emitSample n a).capLeft, capRight := (iterate emitSample n a).capRight
        frame := (iterate emitSample n a).frame, published := (iterate emitSample n a).published } := by
  induction n generalizing a with
  | zero => rfl
  | succ n ih =>
    show iterate emitSample n (emitSample a) = _
    rw [ih, emitSample_frame]
    rfl

/-- Running the sample clock changes the accumulator and the output side. -/
theorem sampleClock_frame (c : Nat) (a : Apu) :
    sampleClock c a =
      { a with
        sampleAcc := (a.sampleAcc + c * sampleRate) % clockRate
        capLeft := (sampleClock c a).capLeft, capRight := (sampleClock c a).capRight
        frame := (sampleClock c a).frame, published := (sampleClock c a).published } := by
  unfold sampleClock
  rw [iterate_emitSample_frame]

/-- A down-counter's new value is positive, and no more than the larger of its old value and the period. -/
theorem countDown_pos {c period timer : Nat} (hp : 0 < period) :
    0 < (countDown c period timer).1 ∧ (countDown c period timer).1 ≤ max timer period := by
  unfold countDown
  split
  · exact ⟨by dsimp only; omega, by dsimp only; omega⟩
  · dsimp only
    have h1 := Nat.div_add_mod (c - timer) period
    have h2 := Nat.mod_lt (c - timer) hp
    have h3 : ((c - timer) / period + 1) * period = period * ((c - timer) / period) + period := by ring
    constructor <;> omega

/-- A down-counter takes its period up once for each reload, and comes to rest above 0 (R496). -/
theorem countDown_spec {c period timer : Nat} (hp : 0 < period) :
    (countDown c period timer).1 + c = timer + (countDown c period timer).2 * period ∧
      0 < (countDown c period timer).1 ∧
      ((countDown c period timer).2 = 0 ∨ (countDown c period timer).1 ≤ period) := by
  unfold countDown
  split
  · exact ⟨by simp; omega, by simp; omega, .inl rfl⟩
  · have h1 := Nat.div_add_mod (c - timer) period
    have h2 := Nat.mod_lt (c - timer) hp
    have h3 : ((c - timer) / period + 1) * period = period * ((c - timer) / period) + period := by ring
    dsimp only
    rw [h3]
    exact ⟨by omega, by omega, .inr (by omega)⟩

theorem storedDuty_toNat : ∀ nrx1 : Byte, (storedDuty nrx1).toNat = nrx1.toNat / 64 := by decide

/-- All that a pulse channel's timer does: the timer, the duty position, and the duty in use, which changes only with a
reload (R482, R496). -/
theorem pulseTimer_eq (c period : Nat) (nrx1 : Byte) (p : Pulse) :
    pulseTimer c period nrx1 p =
      { p with
        timer := (countDown c period p.timer).1
        dutyPos := p.dutyPos + BitVec.ofNat 3 (countDown c period p.timer).2
        duty := if (countDown c period p.timer).2 = 0 then p.duty else storedDuty nrx1 } := rfl

end Sys2Proof.Laws
end

