-- ==== Sys2Proof/Laws/Exec.lean ====
section
/-! SUPPORT. What an instruction's effect can be, once for all instructions: register changes after at most two stores,
or a change of the CPU control state. Invariants of the step follow from this form. -/

namespace Sys2Proof.Laws

open Sys2Proof Machine

/-- The shapes of the effect of an instruction that is not a CPU control instruction. -/
inductive DataForm (s : State) : State → Prop where
  | regs (g : Regs) : DataForm s (setRegs s g)
  | store (a : Word) (v : Byte) (g : Regs) : DataForm s (setRegs (busWrite a v s) g)
  | store2 (a : Word) (v : Byte) (b : Word) (w : Byte) (g : Regs) :
      DataForm s (setRegs (busWrite b w (busWrite a v s)) g)

/-- The shapes of an instruction's effect on a state. -/
inductive ExecForm (s : State) : State → Prop where
  | data {t : State} (h : DataForm s t) : ExecForm s t
  | control (g : Regs) (ime pending bug : Bool) (c : CpuState) :
      ExecForm s { s with regs := g, ime := ime, imePending := pending, haltBug := bug, cpuState := c }

theorem dataForm_self (s : State) : DataForm s s := .regs s.regs

theorem dataForm_setRegs {s t : State} (h : DataForm s t) (g : Regs) : DataForm s (setRegs t g) := by
  cases h
  · exact .regs g
  · exact .store _ _ g
  · exact .store2 _ _ _ _ g

theorem dataForm_busWrite (a : Word) (v : Byte) (s : State) : DataForm s (busWrite a v s) := by
  have h : DataForm s (setRegs (busWrite a v s) (busWrite a v s).regs) := .store a v _
  rwa [setRegs_self] at h

theorem dataForm_busWrite16 (a v : Word) (s : State) : DataForm s (busWrite16 a v s) := by
  have h : DataForm s (setRegs (busWrite16 a v s) (busWrite16 a v s).regs) := .store2 _ _ _ _ _
  rwa [setRegs_self] at h

theorem dataForm_setOperand8 (o : Operand8) (v : Byte) (s : State) : DataForm s (setOperand8 o v s) := by
  cases o <;> first | exact .regs _ | exact dataForm_busWrite _ _ s

theorem dataForm_setPair (p : Pair) (v : Word) (s : State) : DataForm s (setPair p v s) := by
  cases p <;> exact .regs _

theorem dataForm_push16 (v : Word) (s : State) : DataForm s (push16 v s) := by
  rw [push16_eq]
  exact dataForm_setRegs (.store2 _ _ _ _ _) _

theorem dataForm_callTo (a : Word) (s : State) : DataForm s (callTo a s) := dataForm_setRegs (dataForm_push16 _ s) _

theorem dataForm_modify8 (f : Byte → Flags → Byte × Flags) (o : Operand8) (s : State) : DataForm s (modify8 f o s) :=
  dataForm_setRegs (dataForm_setOperand8 o _ s) _

theorem dataForm_rotate8 (o : RotOp) (x : Operand8) (s : State) : DataForm s (rotate8 o x s) := dataForm_modify8 _ _ s

theorem dataForm_stepPointer {s t : State} (p : Pointer) (h : DataForm s t) : DataForm s (stepPointer p t) := by
  cases p <;> first | exact h | exact dataForm_setRegs h _

theorem dataForm_popPair (p : StkPair) (s : State) : DataForm s (popPair p s) := by cases p <;> exact .regs _

theorem dataForm_whenCond (cc : Cond) {f : State → State} {s : State} (h : DataForm s (f s)) :
    DataForm s (whenCond cc f s) := by
  unfold whenCond
  split
  · exact h
  · exact dataForm_self s

theorem dataForm_cbPage (op : Byte) (s : State) : DataForm s (cbPage op s) := by
  unfold cbPage
  dsimp only
  split
  · exact dataForm_modify8 _ _ s
  · exact .regs _
  · exact dataForm_setOperand8 _ _ s
  · exact dataForm_setOperand8 _ _ s

theorem dataForm_cbPage_setPc (op : Byte) (a : Word) (s : State) : DataForm s (cbPage op (setPc a s)) := by
  have h := dataForm_cbPage op (setPc a s)
  generalize cbPage op (setPc a s) = t at h
  cases h
  · exact .regs _
  · rw [setPc_eq, busWrite_setRegs]
    exact .store _ _ _
  · rw [setPc_eq, busWrite_setRegs, busWrite_setRegs]
    exact .store2 _ _ _ _ _

theorem execForm_haltCpu (s : State) : ExecForm s (haltCpu s) := by
  unfold haltCpu
  split
  · exact .control s.regs s.ime s.imePending true s.cpuState
  · exact .control s.regs s.ime s.imePending s.haltBug .halted

theorem execForm_returnFromInterrupt (s : State) : ExecForm s (returnFromInterrupt s) := by
  unfold returnFromInterrupt enableAfterReturn
  split
  · exact .control _ s.ime true s.haltBug s.cpuState
  · exact .control _ true false s.haltBug s.cpuState

/-- The instructions that change the CPU control state: STOP, HALT, DI, EI, RETI and the illegal opcodes. -/
def isControl (i : Instr) : Bool :=
  match i with
  | .stop _ => true
  | .halt => true
  | .di => true
  | .ei => true
  | .reti => true
  | .illegal _ => true
  | _ => false

/-- Every other instruction answers a next state of one of the data forms. -/
theorem exec_dataForm {i : Instr} (h : isControl i = false) (s : State) : ∃ t, exec i s = .next t ∧ DataForm s t := by
  cases i
  all_goals first | (simp only [isControl, Bool.true_eq_false] at h; done) | refine ⟨_, rfl, ?_⟩
  all_goals
    first
    | with_reducible exact dataForm_self s
    | with_reducible exact dataForm_setOperand8 _ _ s
    | with_reducible exact dataForm_modify8 _ _ s
    | with_reducible exact dataForm_rotate8 _ _ s
    | with_reducible exact dataForm_setPair _ _ s
    | with_reducible exact dataForm_callTo _ s
    | with_reducible exact dataForm_popPair _ s
    | with_reducible exact dataForm_cbPage_setPc _ _ s
    | with_reducible exact dataForm_whenCond _ (dataForm_callTo _ s)
    | with_reducible exact dataForm_whenCond _ (.regs _)
    | skip
  all_goals
    first
    | exact .regs _
    | exact dataForm_busWrite _ _ s
    | exact dataForm_busWrite16 _ _ s
    | exact dataForm_push16 _ s
    | exact dataForm_setOperand8 _ _ s
    | exact dataForm_stepPointer _ (dataForm_busWrite _ _ s)

/-- Every instruction answers a next state of one of the forms. -/
theorem exec_form (i : Instr) (s : State) : ∃ t, exec i s = .next t ∧ ExecForm s t := by
  cases h : isControl i
  · obtain ⟨t, e, f⟩ := exec_dataForm h s
    exact ⟨t, e, .data f⟩
  · cases i
    all_goals first | (simp only [isControl, Bool.false_eq_true] at h; done) | refine ⟨_, rfl, ?_⟩
    all_goals
      first
      | with_reducible exact execForm_haltCpu s
      | with_reducible exact execForm_returnFromInterrupt s
      | exact .control s.regs s.ime true s.haltBug s.cpuState
      | exact .control s.regs false false s.haltBug s.cpuState
      | exact .control s.regs s.ime s.imePending s.haltBug _

/-- A data form leaves the CPU control state and what is fixed at load alone. -/
theorem dataForm_keeps {s t : State} (h : DataForm s t) : KeepsControl s t ∧ SameBuild s t := by
  cases h with
  | regs g => exact (KeepsCpu.refl s).2
  | store a v g => exact (busWrite_cpu a v s).2
  | store2 a v b w g => exact ((busWrite_cpu a v s).trans (busWrite_cpu b w _)).2

/-! ## The families, as shared operations -/

theorem exec_load {dst src : Operand8} (h : dst ≠ .atHl ∨ src ≠ .atHl) (s : State) :
    exec (.load dst src) s = .next (copy8 dst src s) := by
  cases dst <;> cases src <;> first | rfl | simp at h

theorem exec_loadImm (dst : Operand8) (n : Byte) (s : State) : exec (.loadImm dst n) s = .next (setOperand8 dst n s) := by
  cases dst <;> rfl

theorem exec_loadPair (p : Pair) (nn : Word) (s : State) : exec (.loadPair p nn) s = .next (setPair p nn s) := by
  cases p <;> rfl

theorem exec_alu (o : AluOp) (src : Operand8) (s : State) :
    exec (.alu o src) s = .next (aluWith o (getOperand8 src s) s) := by
  cases o <;> cases src <;> rfl

theorem exec_aluImm (o : AluOp) (n : Byte) (s : State) : exec (.aluImm o n) s = .next (aluWith o n s) := by
  cases o <;> rfl

theorem exec_inc8 (dst : Operand8) (s : State) : exec (.inc8 dst) s = .next (modify8 incByte dst s) := by
  cases dst <;> rfl

theorem exec_dec8 (dst : Operand8) (s : State) : exec (.dec8 dst) s = .next (modify8 decByte dst s) := by
  cases dst <;> rfl

theorem exec_addHl (p : Pair) (s : State) : exec (.addHl p) s = .next (addHlPair p s) := by cases p <;> rfl

theorem exec_incPair (p : Pair) (s : State) : exec (.incPair p) s = .next (incPair16 p s) := by cases p <;> rfl

theorem exec_decPair (p : Pair) (s : State) : exec (.decPair p) s = .next (decPair16 p s) := by cases p <;> rfl

theorem exec_push (p : StkPair) (s : State) : exec (.push p) s = .next (pushPair p s) := by cases p <;> rfl

theorem exec_pop (p : StkPair) (s : State) : exec (.pop p) s = .next (popPair p s) := by cases p <;> rfl

theorem exec_rot (o : RotOp) (x : Operand8) (s : State) : exec (.rot o x) s = .next (rotate8 o x s) := by
  cases o <;> cases x <;> rfl

theorem exec_bit (k : BitNo) (x : Operand8) (s : State) : exec (.bit k x) s = .next (testBit8 k x s) := by
  cases k <;> cases x <;> rfl

theorem exec_res (k : BitNo) (x : Operand8) (s : State) : exec (.res k x) s = .next (clearBit8 k x s) := by
  cases k <;> cases x <;> rfl

theorem exec_set (k : BitNo) (x : Operand8) (s : State) : exec (.set k x) s = .next (setBit8 k x s) := by
  cases k <;> cases x <;> rfl

theorem exec_jpIf (cc : Cond) (nn : Word) (s : State) : exec (.jpIf cc nn) s = .next (whenCond cc (setPc nn) s) := by
  cases cc <;> rfl

theorem exec_jrIf (cc : Cond) (dist : Byte) (s : State) :
    exec (.jrIf cc dist) s = .next (whenCond cc (jumpRelative dist) s) := by cases cc <;> rfl

theorem exec_callIf (cc : Cond) (nn : Word) (s : State) :
    exec (.callIf cc nn) s = .next (whenCond cc (callTo nn) s) := by cases cc <;> rfl

theorem exec_retIf (cc : Cond) (s : State) : exec (.retIf cc) s = .next (whenCond cc returnFrom s) := by
  cases cc <;> rfl

theorem exec_rst (k : BitNo) (s : State) : exec (.rst k) s = .next (callTo (rstTarget k) s) := by cases k <;> rfl

end Sys2Proof.Laws
end

