-- ==== Sys2Proof/Laws/Launch.lean ====
section
/-! SUPPORT. What building a machine gives: the cartridge of an image, and the fields of a `power_on` launch. -/

namespace Sys2Proof.Laws

open Sys2Proof Sys2Proof.Machine

/-! ## The cartridge load -/

/-- What a load refuses, in the order of its checks, and what it answers otherwise (R521 to R526). -/
theorem loadCartridge_eq {image : List Byte} (save : Option (List Byte)) (rtcSave : Option Int) (h : HostClock)
    {banks ramSize : Nat} (hl : 0x150 ≤ image.length) (hb : romBanksOf (image.getD 0x148 0) = some banks)
    (hr : ramSizeOf (image.getD 0x149 0) = some ramSize) :
    loadCartridge image save rtcSave h =
      match cartTypeOf (image.getD 0x147 0) with
      | none => .error (.unsupportedCartridge (image.getD 0x147 0))
      | some t =>
        if !isSupported t.family then .error (.unsupportedCartridge (image.getD 0x147 0))
        else if image.length < banks * 0x4000 then .error (.truncatedRom (image.getD 0x148 0))
        else .ok (buildCart (capabilityOf t banks ramSize) image save rtcSave h) := by
  unfold loadCartridge
  rw [if_neg (by omega)]
  dsimp only
  generalize romBanksOf (image.getD 0x148 0) = b at hb ⊢
  generalize ramSizeOf (image.getD 0x149 0) = r at hr ⊢
  subst hb hr
  cases cartTypeOf (image.getD 0x147 0) <;> rfl

/-- The image of a loaded cartridge is its ROM. -/
theorem buildCart_rom (cap : Capability) (image : List Byte) (save : Option (List Byte)) (rtcSave : Option Int)
    (h : HostClock) (k : Nat) : (buildCart cap image save rtcSave h).cart.rom.read k = image.getD k Memory.fill := by
  show (Memory.ofBytes 0 image).read k = _
  rw [memory_read_ofBytes, if_pos (Nat.zero_le k), Nat.sub_zero]

/-- A battery-backed cartridge starts with the bytes of its save file, as many as it has RAM (R520, R550). -/
theorem loadRam_save {cap : Capability} (bytes : List Byte) {k : Nat} (hb : cap.hasBattery = true)
    (hk : k < cap.ramSize) : (loadRam cap (some bytes)).read k = bytes.getD k Memory.fill := by
  unfold loadRam
  simp only [hb, if_true]
  rw [memory_read_ofBytes, if_pos (Nat.zero_le k), Nat.sub_zero]
  simp [List.getD_eq_getElem?_getD, hk]

/-- The RTC's start time at load is that of its save file, or a sample of the wall clock, which does not go back
(R540). -/
theorem rtcStartAtLoad_cases (rtcSave : Option Int) (h : HostClock) :
    (∃ start, rtcSave = some start ∧ rtcStartAtLoad rtcSave h = (start, h)) ∨
      (rtcSave = none ∧ (rtcStartAtLoad rtcSave h).1 = (rtcStartAtLoad rtcSave h).2.now ∧
        h.now ≤ (rtcStartAtLoad rtcSave h).2.now) := by
  cases rtcSave with
  | some start => exact .inl ⟨start, rfl, rfl⟩
  | none => exact .inr ⟨rfl, rfl, Nat.le_add_right _ _⟩

/-! ## The launches -/

/-- A launch fails exactly as its cartridge load does (R560). -/
theorem launch_error {image : List Byte} {save : Option (List Byte)} {rtcSave : Option Int} {h : HostClock}
    {e : LoadRefusal} (kind : LaunchKind) (params : Params) (hl : loadCartridge image save rtcSave h = .error e) :
    launch kind params image save rtcSave h = .error e := by
  unfold launch
  rw [hl]

/-- A launch of a cartridge that loads builds the machine of its kind (R560, R563). -/
theorem launch_ok {image : List Byte} {save : Option (List Byte)} {rtcSave : Option Int} {h : HostClock}
    {l : Loaded} (kind : LaunchKind) (params : Params) (hl : loadCartridge image save rtcSave h = .ok l) :
    launch kind params image save rtcSave h =
      .ok (match kind with
        | .powerOn boot => powerOn boot l params
        | .postBoot u => postBoot l params u) := by
  unfold launch
  rw [hl]
  cases kind <;> rfl

/-- The boot image of a `power_on` launch is its first 256 bytes (R78). -/
theorem powerOn_bootRom (boot : List Byte) (l : Loaded) (params : Params) {k : Nat} (hk : k < 256) :
    (powerOn boot l params).bootRom.read k = boot.getD k Memory.fill := by
  show (Memory.ofBytes 0 (boot.take 256)).read k = _
  rw [memory_read_ofBytes, if_pos (Nat.zero_le k), Nat.sub_zero]
  simp [List.getD_eq_getElem?_getD, hk]

@[simp] theorem powerOn_regs (boot : List Byte) (l : Loaded) (params : Params) :
    (powerOn boot l params).regs = State.reset.regs := rfl
@[simp] theorem powerOn_cart (boot : List Byte) (l : Loaded) (params : Params) :
    (powerOn boot l params).cart = l.cart := rfl
@[simp] theorem powerOn_hostClock (boot : List Byte) (l : Loaded) (params : Params) :
    (powerOn boot l params).hostClock = l.clock := rfl
@[simp] theorem powerOn_params (boot : List Byte) (l : Loaded) (params : Params) :
    (powerOn boot l params).params = params := rfl
@[simp] theorem postBoot_cart (l : Loaded) (params : Params) (u : State) : (postBoot l params u).cart = l.cart := rfl
@[simp] theorem postBoot_hostClock (l : Loaded) (params : Params) (u : State) :
    (postBoot l params u).hostClock = l.clock := rfl
@[simp] theorem postBoot_params (l : Loaded) (params : Params) (u : State) :
    (postBoot l params u).params = params := rfl

end Sys2Proof.Laws
end

