-- ==== Sys2Proof/Laws/Step.lean ====
section
/-! SUPPORT. What a step can do, said once, and the induction that turns an invariant of its parts into an invariant of
the step. -/

namespace Sys2Proof.Laws

open Sys2Proof Machine

/-- The state before the third part of a step: the host's input, the DMA copy and the wake-up check done (R352). -/
def ready (s : State) : State := wake (runDma (takeHostInput s))

/-- Everything a step that answers a next state can be: a DMA fault, an interrupt entry, an instruction, or an idle
cycle. -/
theorem step_cases {s t : State} (h : step s = .next t) :
    ((∃ r, (runDma (takeHostInput s)).cpuState = .faulted r) ∧ t = runDma (takeHostInput s)) ∨
      ((∀ r, (runDma (takeHostInput s)).cpuState ≠ .faulted r) ∧
        (((ready s).cpuState = .running ∧ interruptDue (ready s) = true ∧
            t = advanceClock interruptCost
              (interruptEntry (lowestSource (pendingSources (ready s))) (ready s))) ∨
          ((ready s).cpuState = .running ∧ interruptDue (ready s) = false ∧
            ∃ i u, i = fetchInstr (ready s) ∧ exec i (afterFetch i (ready s)) = .next u ∧
              t = endInstruction (ready s).imePending (instrCost i (afterFetch i (ready s))) u) ∨
          ((ready s).cpuState ≠ .running ∧ t = advanceClock idleCost (ready s)))) := by
  have hs : step s = runStep s ∨ ∃ r, step s = .fault r := by
    unfold step
    split
    · exact .inr ⟨_, rfl⟩
    · exact .inl rfl
  rcases hs with hs | ⟨r, hs⟩
  · rw [hs] at h
    unfold runStep at h
    dsimp only at h
    split at h
    · rename_i r hr
      cases h
      exact .inl ⟨⟨r, hr⟩, rfl⟩
    · rename_i hr
      refine .inr ⟨hr, ?_⟩
      change runCpu (ready s) = _ at h
      unfold runCpu at h
      split at h
      · rename_i hrun
        cases hd : interruptDue (ready s)
        · rw [hd] at h
          refine .inr (.inl ⟨hrun, rfl, fetchInstr (ready s), ?_⟩)
          simp only [runInstr] at h
          obtain ⟨u, hu, -⟩ := exec_form (fetchInstr (ready s)) (afterFetch (fetchInstr (ready s)) (ready s))
          rw [hu] at h
          refine ⟨u, rfl, hu, ?_⟩
          simpa using h.symm
        · rw [hd] at h
          refine .inl ⟨hrun, rfl, ?_⟩
          simpa using h.symm
      · rename_i hrun
        refine .inr (.inr ⟨hrun, ?_⟩)
        simpa using h.symm
  · rw [hs] at h
    cases h

/-! ## The parts of a step where nothing is due -/

theorem runDma_none {s : State} (h : s.dmaPending = false) : runDma s = s := by
  rcases runDma_cases s with ⟨-, e⟩ | ⟨e, -⟩ | ⟨e, -⟩
  · exact e
  all_goals
    rw [h] at e
    cases e

theorem takeHostInput_nil {s : State} (h : s.hostInputs = []) : takeHostInput s = s := by
  unfold takeHostInput
  rw [h]

theorem takeHostInput_cons {s : State} {events : List Buttons} {later : List (List Buttons)}
    (h : s.hostInputs = events :: later) :
    takeHostInput s = events.foldl hostPress { s with hostInputs := later } := by
  unfold takeHostInput
  rw [h]

/-- A step of a machine that has not faulted, with no input and no copy due. -/
theorem step_quiet {s : State} (hf : NotFaulted s) (hh : s.hostInputs = []) (hd : s.dmaPending = false) :
    step s = runCpu (wake s) := by
  have hs : step s = runStep s := by
    unfold step
    split
    · rename_i r hr
      exact absurd hr (hf r)
    · rfl
  rw [hs]
  unfold runStep
  rw [takeHostInput_nil hh, runDma_none hd]
  dsimp only
  split
  · rename_i r hr
    exact absurd hr (hf r)
  · rfl

/-- The host's input reaches the buttons, `IF` and the list of inputs, and nothing else. -/
theorem takeHostInput_frame (s : State) :
    takeHostInput s =
      { s with
        buttons := (takeHostInput s).buttons, iflag := (takeHostInput s).iflag
        hostInputs := (takeHostInput s).hostInputs } := by
  have fold : ∀ (l : List Buttons) (u : State),
      l.foldl hostPress u =
        { u with buttons := (l.foldl hostPress u).buttons, iflag := (l.foldl hostPress u).iflag } := by
    intro l
    induction l with
    | nil => exact fun u => rfl
    | cons b bs ih =>
      intro u
      rw [List.foldl_cons, ih]
      rfl
  unfold takeHostInput
  split
  · rfl
  · rw [fold]

@[simp] theorem takeHostInput_cpuState (s : State) : (takeHostInput s).cpuState = s.cpuState := by
  rw [takeHostInput_frame]

/-- The host's input does not look at the CPU state. -/
theorem takeHostInput_setCpuState (s : State) (c : CpuState) :
    takeHostInput { s with cpuState := c } = { takeHostInput s with cpuState := c } := by
  have fold : ∀ (l : List Buttons) (u : State),
      l.foldl hostPress { u with cpuState := c } = { l.foldl hostPress u with cpuState := c } := by
    intro l
    induction l with
    | nil => exact fun u => rfl
    | cons b bs ih => exact fun u => ih (hostPress u b)
  obtain h | ⟨events, later, h⟩ : s.hostInputs = [] ∨ ∃ events later, s.hostInputs = events :: later := by
    cases s.hostInputs <;> simp
  · rw [takeHostInput_nil h, takeHostInput_nil (s := { s with cpuState := c }) h]
  · rw [takeHostInput_cons h, takeHostInput_cons (s := { s with cpuState := c }) h]
    exact fold events { s with hostInputs := later }

/-- A step of a machine that has not faulted, where the DMA copy does not fault. -/
theorem step_ready {s : State} (h : NotFaulted (runDma (takeHostInput s))) : step s = runCpu (ready s) := by
  have hf : ∀ r, s.cpuState ≠ .faulted r := by
    intro r hr
    have hr' : (takeHostInput s).cpuState = .faulted r := by rw [takeHostInput_cpuState, hr]
    rcases runDma_cases (takeHostInput s) with ⟨-, e⟩ | ⟨-, -, e⟩ | ⟨-, -, e⟩ <;> rw [e] at h
    · exact h r hr'
    · exact h _ rfl
    · exact h r hr'
  have hs : step s = runStep s := by
    unfold step
    split
    · rename_i r hr
      exact absurd hr (hf r)
    · rfl
  rw [hs]
  unfold runStep
  dsimp only
  split
  · rename_i r hr
    exact absurd hr (h r)
  · rfl

/-- Waking leaves a faulted machine faulted. -/
theorem notFaulted_of_ready {s : State} (h : NotFaulted (ready s)) : NotFaulted (runDma (takeHostInput s)) := by
  intro r hr
  refine h r ?_
  unfold ready wake
  rw [hr]
  exact hr

/-- The step of a machine that fetches: ready, running, with no interrupt due. -/
theorem step_fetch {s : State} (hr : (ready s).cpuState = .running) (hi : interruptDue (ready s) = false) :
    step s = runInstr (fetchInstr (ready s)) (ready s) := by
  rw [step_ready (notFaulted_of_ready fun r h => by rw [hr] at h; cases h)]
  unfold runCpu
  rw [hr, hi]
  rfl

/-- The parts before the instruction leave the clock alone. -/
theorem ready_cpuClock (s : State) : (ready s).cpuClock = s.cpuClock := by
  have hw : ∀ u : State, (wake u).cpuClock = u.cpuClock := by
    intro u
    unfold wake
    split
    · split <;> rfl
    · split <;> rfl
    · rfl
  unfold ready
  rw [hw]
  rcases runDma_cases (takeHostInput s) with ⟨-, e⟩ | ⟨-, -, e⟩ | ⟨-, -, e⟩ <;> rw [e, takeHostInput_frame]

@[simp] theorem stopWakes_never {s : State} (h : s.params.stopWake = .never) : stopWakes s = false := by
  unfold stopWakes
  rw [h]

theorem stopWakes_joypadLine {s : State} (h : s.params.stopWake = .joypadLine) :
    stopWakes s = decide (joypLines s.joypSelect s.buttons ≠ 0xF) := by
  unfold stopWakes
  rw [h]

theorem stopWakes_other {s : State} (h : s.params.stopWake = .other) : stopWakes s = Config.stopWake s := by
  unfold stopWakes
  rw [h]

theorem wake_running {s : State} (h : s.cpuState = .running) : wake s = s := by
  unfold wake
  rw [h]

/-- A step of a running machine, with no input, no copy and no interrupt due. -/
theorem step_instr {s : State} (hr : s.cpuState = .running) (hh : s.hostInputs = []) (hd : s.dmaPending = false)
    (hi : interruptDue s = false) : step s = runInstr (fetchInstr s) s := by
  rw [step_quiet (fun r h => by rw [hr] at h; cases h) hh hd, wake_running hr]
  unfold runCpu
  rw [hr, hi]
  rfl

theorem pendingSources_bit (s : State) {n : Nat} (h : n < 5) :
    (pendingSources s).getLsbD n = (s.ie.getLsbD n && s.iflag.getLsbD n) := by
  simp [pendingSources, h]

/-- A request waits in the five sources exactly where one of their bits is set in both `IE` and `IF`. -/
theorem pendingSources_ne_zero_iff (s : State) :
    pendingSources s ≠ 0 ↔ ∃ n < 5, (s.ie.getLsbD n && s.iflag.getLsbD n) = true := by
  constructor
  · intro h
    by_contra hn
    refine h (BitVec.eq_of_getLsbD_eq fun i hi => ?_)
    simp [pendingSources_bit s hi, Bool.eq_false_iff.mpr fun hb => hn ⟨i, hi, hb⟩]
  · rintro ⟨n, hn, hb⟩ h
    rw [← pendingSources_bit s hn, h] at hb
    simp at hb

/-- When an interrupt is due: `IME` set, and a source both enabled and requested (R27, R352). -/
theorem interruptDue_iff (s : State) :
    interruptDue s = true ↔ s.ime = true ∧ ∃ n < 5, (s.ie.getLsbD n && s.iflag.getLsbD n) = true := by
  rw [← pendingSources_ne_zero_iff]
  simp [interruptDue]

/-- An invariant that the host's input keeps. -/
theorem takeHostInput_induct {P : State → Prop} (hq : ∀ s l, P s → P { s with hostInputs := l })
    (hp : ∀ s b, P s → P (hostPress s b)) {s : State} (h : P s) : P (takeHostInput s) := by
  have fold : ∀ (l : List Buttons) (u : State), P u → P (l.foldl hostPress u) := by
    intro l
    induction l with
    | nil => exact fun u h => h
    | cons b bs ih => exact fun u h => ih _ (hp u b h)
  unfold takeHostInput
  split
  · exact h
  · exact fold _ _ (hq _ _ h)

/-- An invariant that every part of a step keeps is kept by the step. -/
theorem step_induct {P : State → Prop}
    (hq : ∀ s l, P s → P { s with hostInputs := l })
    (hp : ∀ s b, P s → P (hostPress s b))
    (hdma : ∀ s, P s → P (runDma s))
    (hcpu : ∀ s c, P s → P { s with cpuState := c })
    (hint : ∀ s n, P s → P (interruptEntry n s))
    (hfetch : ∀ s i, P s → P (afterFetch i s))
    (hexec : ∀ s t, P s → ExecForm s t → P t)
    (hei : ∀ s b, P s → P (endEiDelay b s))
    (hcycle : ∀ s, P s → P (machineCycle s))
    {s t : State} (h : P s) (hst : step s = .next t) : P t := by
  have hd : P (runDma (takeHostInput s)) := hdma _ (takeHostInput_induct hq hp h)
  have hw : P (ready s) := by
    unfold ready wake
    split
    · split
      · exact hcpu _ _ hd
      · exact hd
    · split
      · exact hcpu _ _ hd
      · exact hd
    · exact hd
  rcases step_cases hst with ⟨-, rfl⟩ | ⟨-, ⟨-, -, rfl⟩ | ⟨-, -, i, u, -, hu, rfl⟩ | ⟨-, rfl⟩⟩
  · exact hd
  · exact advanceClock_induct hcycle _ (hint _ _ hw)
  · obtain ⟨u', hu', hf⟩ := exec_form i (afterFetch i (ready s))
    rw [hu] at hu'
    cases hu'
    have hPu : P u := hexec _ _ (hfetch _ _ hw) hf
    unfold endInstruction
    split
    · exact hPu
    · exact advanceClock_induct hcycle _ (hei _ _ hPu)
  · exact advanceClock_induct hcycle _ hw

/-- An invariant that register changes, stores and CPU control changes keep is kept by an instruction. -/
theorem execForm_invariant {P : State → Prop} (hreg : ∀ s g, P s → P (setRegs s g))
    (hstore : ∀ a v s, P s → P (busWrite a v s))
    (hctl : ∀ (s : State) ime p b c, P s → P { s with ime := ime, imePending := p, haltBug := b, cpuState := c })
    {s t : State} (h : P s) (hf : ExecForm s t) : P t := by
  cases hf with
  | data hd =>
    cases hd with
    | regs g => exact hreg _ _ h
    | store a v g => exact hreg _ _ (hstore _ _ _ h)
    | store2 a v b w g => exact hreg _ _ (hstore _ _ _ (hstore _ _ _ h))
  | control g i p b c => exact hctl _ i p b c (hreg _ g h)

/-- An invariant that says nothing about the CPU registers and control state: it is enough that stores, device inputs,
the DMA copy and a machine cycle keep it. -/
theorem step_invariant {P : State → Prop} (hreg : ∀ s g, P s → P (setRegs s g))
    (hstore : ∀ a v s, P s → P (busWrite a v s))
    (hctl : ∀ (s : State) ime p b c, P s → P { s with ime := ime, imePending := p, haltBug := b, cpuState := c })
    (hif : ∀ (s : State) f, P s → P { s with iflag := f })
    (hq : ∀ (s : State) l, P s → P { s with hostInputs := l })
    (hp : ∀ (s : State) b, P s → P { s with buttons := b })
    (hdma : ∀ (s : State) vs, vs.length = 160 → P s → P { s with oam := Memory.ofBytes 0 vs, dmaPending := false })
    (hcycle : ∀ s, P s → P (machineCycle s)) {s t : State} (h : P s) (hs : step s = .next t) : P t := by
  refine step_induct (P := P) hq ?_ ?_ ?_ ?_ ?_ ?_ ?_ hcycle h hs
  · exact fun s b h => hif _ _ (hp _ b h)
  · intro s h
    rcases runDma_cases s with ⟨-, e⟩ | ⟨-, -, e⟩ | ⟨-, -, e⟩
    · rw [e]; exact h
    · rw [e]; exact hctl s s.ime s.imePending s.haltBug _ h
    · rw [e]; exact hdma _ _ (dmaBytes_length s) h
  · exact fun s c h => hctl s s.ime s.imePending s.haltBug c h
  · intro s n h
    have hpush : P (push16 s.regs.pc s) := by
      rw [push16_eq]
      exact hreg _ _ (hstore _ _ _ (hstore _ _ _ h))
    obtain ⟨-, -, hb, hc, -⟩ := (push16_cpu s.regs.pc s).2.1
    have hset := hctl _ false false s.haltBug s.cpuState
      (hreg _ { (push16 s.regs.pc s).regs with pc := interruptVector n } hpush)
    rw [← hb, ← hc] at hset
    exact hif _ _ hset
  · intro s i h
    rw [afterFetch_eq]
    exact hctl _ s.ime s.imePending false s.cpuState (hreg s _ h)
  · exact fun s t h hf => execForm_invariant hreg hstore hctl h hf
  · intro s b h
    unfold endEiDelay
    split
    · exact hctl s true false s.haltBug s.cpuState h
    · exact h

end Sys2Proof.Laws
end

