-- ==== Sys2Proof/Tests/Slice0.lean ====
section
/-! SUPPORT. The model's own tests: decoding words written out from the spec's encodings, single steps against the
vectors of 95_test_vectors.md (V1 and so on; S, T, M, B, Q, A), and one witness for each statement's hypotheses. -/

open Sys2Proof Sys2Proof.Machine

namespace Sys2Proof.Tests

/- Each `decide +kernel` waits for the kernel: run side by side, a hundred of them hold a hundred threads. -/
set_option Elab.async false

/-! ## Small states -/

/-- Flags Z, N, H, C, from bit 3 down. -/
def flags (n : BitVec 4) : Machine.Flags :=
  { z := n.getLsbD 3, n := n.getLsbD 2, h := n.getLsbD 1, c := n.getLsbD 0 }

/-- The registers of the base state of 95_test_vectors.md. -/
def regs : Regs :=
  { a := 0, f := flags 0, b := 0, c := 0, d := 0, e := 0, h := 0, l := 0, sp := 0xFFFE, pc := 0xC000 }

/-- The base state of 95_test_vectors.md. -/
def base : State := { State.reset with bootEnabled := false, regs := regs }

/-- The base state with code at 0xC000 and the given registers. -/
def run (code : List Byte) (r : Regs) : State := { base with regs := r, wram0 := Memory.ofBytes 0 code }

/-- A byte put in memory beforehand. -/
def put (a : Word) (v : Byte) (s : State) : State := busWrite a v s

/-- What is seen of the next state, if the step answers one. -/
def seen {α : Type} (s : State) (f : State → α) : Option α :=
  match step s with
  | .next t => some (f t)
  | .fault _ => none
  | .refused _ => none

/-- A step that shows something has a next state. -/
theorem step_of_seen {α : Type} {s : State} {f : State → α} {v : α} (h : seen s f = some v) :
    ∃ t, step s = .next t ∧ f t = v := by
  unfold seen at h
  split at h
  · next t ht => exact ⟨t, ht, by simpa using h⟩
  · cases h
  · cases h

/-- A machine that is running has not faulted. -/
theorem notFaulted_of_running {s : State} (h : s.cpuState = .running) : NotFaulted s := by
  intro r hr
  rw [h] at hr
  cases hr

/-! ## Well-formedness -/

theorem test_refuses_illegal_term : Instr.wellFormed (.illegal 0x00) = false := by decide
theorem test_refuses_illegal_prefix : Instr.wellFormed (.illegal 0xCB) = false := by decide
theorem test_accepts_illegal_opcode : Instr.wellFormed (.illegal 0xD3) = true := by decide

/-! ## Decoding (R141, R143, R150, R151): the bits are the fields x, y, z of the opcode -/

/-- x = 1, y = d, z = `(HL)`. -/
theorem test_decode_load8 : decode [0b01010110] = .ok (.ldDAtHl, []) := rfl
/-- x = 0, y = `(HL)`, z = 6; one immediate byte. -/
theorem test_decode_load8_immediate : decode [0b00110110, 0x99] = .ok (.ldAtHlD8 0x99, []) := rfl
/-- x = 0, p = 2, z = 2, q = 0 and 1: `(HL+)`. -/
theorem test_decode_pointer : decode [0b00100010] = .ok (.ldAtHlIncA, []) ∧ decode [0b00101010] = .ok (.ldAAtHlInc, []) :=
  ⟨rfl, rfl⟩
/-- x = 3, y = 4 and 6, z = 0; one immediate byte. -/
theorem test_decode_high_page :
    decode [0b11100000, 0x80] = .ok (.ldhAtA8A 0x80, []) ∧ decode [0b11110000, 0x0F] = .ok (.ldhAAtA8 0x0F, []) :=
  ⟨rfl, rfl⟩
/-- x = 0, p = 3, q = 0, z = 1; the low byte comes first (R144). -/
theorem test_decode_load16 : decode [0b00110001, 0x00, 0xD0] = .ok (.ldSpD16 0xD000, []) := rfl
/-- x = 3, p = 3, z = 5 and 1. -/
theorem test_decode_stack : decode [0b11110101] = .ok (.pushAf, []) ∧ decode [0b11110001] = .ok (.popAf, []) := ⟨rfl, rfl⟩
/-- x = 2, y = SBC, z = h; x = 3, y = CP, z = 6. -/
theorem test_decode_alu : decode [0b10011100] = .ok (.sbcAH, []) ∧ decode [0b11111110, 0x3C] = .ok (.cpD8 0x3C, []) :=
  ⟨rfl, rfl⟩
/-- x = 0, y = c, z = 4 and 5. -/
theorem test_decode_inc_dec : decode [0b00001100] = .ok (.incC, []) ∧ decode [0b00001101] = .ok (.decC, []) := ⟨rfl, rfl⟩
/-- x = 0, p = 1, q = 1, z = 1 and 3. -/
theorem test_decode_arith16 : decode [0b00011001] = .ok (.addHlDe, []) ∧ decode [0b00011011] = .ok (.decDe, []) := ⟨rfl, rfl⟩
/-- x = 0, y = 3, z = 7; CB page x = 0, y = SRA, z = `(HL)`. -/
theorem test_decode_rotates : decode [0b00011111] = .ok (.rra, []) ∧ decode [0xCB, 0b00101110] = .ok (.sraAtHl, []) :=
  ⟨rfl, rfl⟩
/-- CB page x = 1, 2, 3, y = 5, z = e. -/
theorem test_decode_bits :
    decode [0xCB, 0b01101011] = .ok (.bit5E, []) ∧ decode [0xCB, 0b10101011] = .ok (.res5E, []) ∧
      decode [0xCB, 0b11101011] = .ok (.set5E, []) := ⟨rfl, rfl, rfl⟩
/-- x = 3, y = nc, z = 2, 4 and 0; x = 0, y = 4 + z, z = 0; x = 3, y = 5, z = 7. -/
theorem test_decode_control :
    decode [0b11010010, 0x34, 0x12] = .ok (.jpNcA16 0x1234, []) ∧
      decode [0b11010100, 0x34, 0x12] = .ok (.callNcA16 0x1234, []) ∧ decode [0b11010000] = .ok (.retNc, []) ∧
      decode [0b00101000, 0xFB] = .ok (.jrZE8 0xFB, []) ∧ decode [0b11101111] = .ok (.rst28, []) :=
  ⟨rfl, rfl, rfl, rfl, rfl⟩
/-- The slot of `LD (HL),(HL)` is HALT (R147). -/
theorem test_decode_cpu_control : decode [0b01110110] = .ok (.halt, []) ∧ decode [0b11111011] = .ok (.ei, []) := ⟨rfl, rfl⟩
/-- Nothing to read, and an immediate cut off, are refused by name. -/
theorem test_decode_refuses : decode [] = .error .empty ∧ decode [0x3E] = .error (.truncated 0x3E) := ⟨rfl, rfl⟩
/-- A row of the CB page is numbered with the prefix as its first byte. -/
theorem test_table_words :
    decodeTableWord 8 0x41 = some .ldBC ∧ decodeTableWord 8 0xC3 = some (.jpA16 0) ∧
      decodeTableWord 16 0xCB37 = some .swapA := ⟨rfl, rfl, rfl⟩
/-- R162, rows 0x, Cx and Ex. -/
theorem test_lengths :
    (List.range 16).map (fun k => opcodeLength (BitVec.ofNat 8 k)) = [1, 3, 1, 1, 1, 1, 2, 1, 3, 1, 1, 1, 1, 1, 2, 1] ∧
    (List.range 16).map (fun k => opcodeLength (BitVec.ofNat 8 (0xC0 + k))) =
      [1, 1, 3, 3, 3, 1, 2, 1, 1, 1, 3, 2, 3, 3, 2, 1] ∧
    (List.range 16).map (fun k => opcodeLength (BitVec.ofNat 8 (0xE0 + k))) =
      [2, 1, 1, 1, 1, 1, 2, 1, 2, 1, 3, 1, 1, 1, 2, 1] := by decide +kernel
/-- R160, rows 0x and Fx, in machine cycles (the illegal 0xF4, 0xFC and 0xFD apart); R161. -/
theorem test_costs :
    (List.range 16).map (fun k => defaultCost (BitVec.ofNat 8 k) false true) =
      [1, 3, 2, 2, 1, 1, 2, 1, 5, 2, 2, 2, 1, 1, 2, 1] ∧
    [0xF0, 0xF1, 0xF2, 0xF3, 0xF5, 0xF6, 0xF7, 0xF8, 0xF9, 0xFA, 0xFB, 0xFE, 0xFF].map
        (fun k => defaultCost (BitVec.ofNat 8 k) false true) = [3, 3, 2, 1, 4, 2, 4, 3, 2, 4, 1, 2, 4] ∧
    [0x00, 0x06, 0x46, 0x86, 0xC6].map (fun k => defaultCost (BitVec.ofNat 8 k) true true) = [2, 4, 3, 4, 4] := by
  decide +kernel

/-! ## Single instructions: the vectors V1 to V182 -/

/-- V1 (R181). -/
theorem test_ld_b_c :
    seen (run [0x41] { regs with c := 0x5A })
      (fun t => (t.regs.b, t.regs.pc, t.cpuClock)) = some (0x5A, 0xC001, 4) := by decide +kernel

/-- V3 (R183). -/
theorem test_ld_d_at_hl :
    seen (put 0xC100 0x77 (run [0x56] { regs with h := 0xC1, l := 0x00 }))
      (fun t => (t.regs.d, t.regs.pc, t.cpuClock)) = some (0x77, 0xC001, 8) := by decide +kernel

/-- V5 (R184). -/
theorem test_ld_at_hl_h :
    seen (run [0x74] { regs with h := 0xC1, l := 0xC1 })
      (fun t => (busRead t 0xC1C1, t.regs.pc, t.cpuClock)) = some (0xC1, 0xC001, 8) := by decide +kernel

/-- V6 (R185). -/
theorem test_ld_at_hl_d8 :
    seen (run [0x36, 0x99] { regs with h := 0xC1, l := 0x00 })
      (fun t => (busRead t 0xC100, t.regs.pc, t.cpuClock)) = some (0x99, 0xC002, 12) := by decide +kernel

/-- V8 (R186). -/
theorem test_ld_a_at_bc :
    seen (put 0xC123 0x2F (run [0x0A] { regs with b := 0xC1, c := 0x23 }))
      (fun t => (t.regs.a, t.regs.pc, t.cpuClock)) = some (0x2F, 0xC001, 8) := by decide +kernel

/-- V12 (R196). -/
theorem test_ld_hli_a :
    seen (run [0x22] { regs with h := 0xFF, l := 0xFF, a := 0x56 })
      (fun t => (t.regs.h, t.regs.l, t.ie, t.regs.pc, t.cpuClock)) =
      some (0x00, 0x00, 0x56, 0xC001, 8) := by decide +kernel

/-- V15 (R199). -/
theorem test_ld_a_hld :
    seen (run [0x3A] { regs with h := 0x00, l := 0x00, a := 0x11 })
      (fun t => (t.regs.h, t.regs.l, t.regs.a, t.regs.pc, t.cpuClock)) =
      some (0xFF, 0xFF, 0x00, 0xC001, 8) := by decide +kernel

/-- V16 (R193). -/
theorem test_ldh_at_a8_a :
    seen (run [0xE0, 0x80] { regs with a := 0x42 })
      (fun t => (busRead t 0xFF80, t.regs.pc, t.cpuClock)) = some (0x42, 0xC002, 12) := by decide +kernel

/-- V20 (R192). -/
theorem test_ldh_a_at_a8 :
    seen (run [0xF0, 0x50] { regs with a := 0x11 })
      (fun t => (t.regs.a, t.regs.pc, t.cpuClock)) = some (0xFF, 0xC002, 12) := by decide +kernel

/-- V22 (R194). -/
theorem test_ldh_a_at_c :
    seen ({ run [0xF2] { regs with c := 0xFF } with ie := 0x15 })
      (fun t => (t.regs.a, t.regs.pc, t.cpuClock)) = some (0x15, 0xC001, 8) := by decide +kernel

/-- V25 (R190). -/
theorem test_ld_a_at_a16 :
    seen (put 0xD234 0xA6 (run [0xFA, 0x34, 0xF2] regs))
      (fun t => (t.regs.a, t.regs.pc, t.cpuClock)) = some (0xA6, 0xC003, 16) := by decide +kernel

/-- V26 (R191). -/
theorem test_ld_at_a16_a :
    seen (run [0xEA, 0x00, 0xE1] { regs with a := 0x3E })
      (fun t => (busRead t 0xC100, t.regs.pc, t.cpuClock)) = some (0x3E, 0xC003, 16) := by decide +kernel

/-- V30 (R191). -/
theorem test_ld_at_a16_a_again :
    seen ({ run [0xEA, 0x00, 0x80] { regs with a := 0x3E } with ppu := { base.ppu with vramAccess := false } })
      (fun t => (t.vram.read 0, t.regs.pc, t.cpuClock)) = some (0x00, 0xC003, 16) := by decide +kernel

/-- V34 (R221). -/
theorem test_ld_bc_d16 :
    seen (run [0x01, 0x34, 0x12] regs)
      (fun t => (t.regs.b, t.regs.c, t.regs.pc, t.cpuClock)) = some (0x12, 0x34, 0xC003, 12) := by decide +kernel

/-- V36 (R222). -/
theorem test_ld_at_a16_sp :
    seen (run [0x08, 0x00, 0xC1] { regs with sp := 0xFFF8 })
      (fun t => (busRead t 0xC100, busRead t 0xC101, t.regs.pc, t.cpuClock)) =
      some (0xF8, 0xFF, 0xC003, 20) := by decide +kernel

/-- V38 (R225). -/
theorem test_push_bc :
    seen (run [0xC5] { regs with b := 0x12, c := 0x34 })
      (fun t => (t.regs.sp, busRead t 0xFFFD, busRead t 0xFFFC, t.regs.pc, t.cpuClock)) =
      some (0xFFFC, 0x12, 0x34, 0xC001, 16) := by decide +kernel

/-- V41 (R226). -/
theorem test_pop_af :
    seen (put 0xFFFD 0x12 (put 0xFFFC 0xFF (run [0xF1] { regs with sp := 0xFFFC })))
      (fun t => (t.regs.a, t.regs.f, t.regs.sp, t.regs.pc, t.cpuClock)) =
      some (0x12, flags 0b1111, 0xFFFE, 0xC001, 12) := by decide +kernel

/-- V42 (R225). -/
theorem test_push_bc_again :
    seen (run [0xC5] { regs with sp := 0x0000, b := 0xBE, c := 0xEF })
      (fun t => (t.regs.sp, t.ie, busRead t 0xFFFF, busRead t 0xFFFE, t.regs.pc, t.cpuClock)) =
      some (0xFFFE, 0xBE, 0xBE, 0xEF, 0xC001, 16) := by decide +kernel

/-- V45 (R224). -/
theorem test_ld_hl_sp_plus_e8 :
    seen (run [0xF8, 0xFE] { regs with sp := 0x0001, h := 0xAA, l := 0xAA })
      (fun t => (t.regs.h, t.regs.l, t.regs.pc, t.cpuClock)) = some (0xFF, 0xFF, 0xC002, 12) := by decide +kernel

/-- V48 (R241). -/
theorem test_add_a_b :
    seen (run [0x80] { regs with a := 0x3A, b := 0xC6 })
      (fun t => (t.regs.a, t.regs.f, t.regs.pc, t.cpuClock)) =
      some (0x00, flags 0b1011, 0xC001, 4) := by decide +kernel

/-- V52 (R242). -/
theorem test_adc_a_b :
    seen (run [0x88] { regs with a := 0xE1, b := 0x0F, f := flags 0b0001 })
      (fun t => (t.regs.a, t.regs.f, t.regs.pc, t.cpuClock)) =
      some (0xF1, flags 0b0010, 0xC001, 4) := by decide +kernel

/-- V54 (R242). -/
theorem test_adc_a_d8 :
    seen (run [0xCE, 0xFF] { regs with a := 0x00, f := flags 0b0001 })
      (fun t => (t.regs.f, t.regs.pc, t.cpuClock)) = some (flags 0b1011, 0xC002, 8) := by decide +kernel

/-- V58 (R243). -/
theorem test_sub_at_hl :
    seen (put 0xC100 0x40 (run [0x96] { regs with a := 0x3E, h := 0xC1, l := 0x00 }))
      (fun t => (t.regs.a, t.regs.f, t.regs.pc, t.cpuClock)) =
      some (0xFE, flags 0b0101, 0xC001, 8) := by decide +kernel

/-- V61 (R244). -/
theorem test_sbc_a_d8 :
    seen (run [0xDE, 0xFF] { regs with a := 0x00, f := flags 0b0001 })
      (fun t => (t.regs.f, t.regs.pc, t.cpuClock)) = some (flags 0b1111, 0xC002, 8) := by decide +kernel

/-- V65 (R245). -/
theorem test_and_b :
    seen (run [0xA0] { regs with a := 0x5A, b := 0x3F })
      (fun t => (t.regs.a, t.regs.f, t.regs.pc, t.cpuClock)) =
      some (0x1A, flags 0b0010, 0xC001, 4) := by decide +kernel

/-- V68 (R246). -/
theorem test_xor_a :
    seen (run [0xAF] { regs with a := 0x5A, f := flags 0b1111 })
      (fun t => (t.regs.a, t.regs.f, t.regs.pc, t.cpuClock)) =
      some (0x00, flags 0b1000, 0xC001, 4) := by decide +kernel

/-- V69 (R247). -/
theorem test_or_c :
    seen (run [0xB1] { regs with a := 0x5A, c := 0x0F })
      (fun t => (t.regs.a, t.regs.pc, t.cpuClock)) = some (0x5F, 0xC001, 4) := by decide +kernel

/-- V73 (R248). -/
theorem test_cp_at_hl :
    seen (put 0xC100 0x40 (run [0xBE] { regs with a := 0x3C, h := 0xC1, l := 0x00 }))
      (fun t => (t.regs.f, t.regs.pc, t.cpuClock)) = some (flags 0b0101, 0xC001, 8) := by decide +kernel

/-- V75 (R249). -/
theorem test_inc_b :
    seen (run [0x04] { regs with b := 0x0F, f := flags 0b1100 })
      (fun t => (t.regs.f, t.regs.b, t.regs.pc, t.cpuClock)) =
      some (flags 0b0010, 0x10, 0xC001, 4) := by decide +kernel

/-- V77 (R250). -/
theorem test_inc_at_hl :
    seen (put 0xC100 0xFF (run [0x34] { regs with h := 0xC1, l := 0x00, f := flags 0b0001 }))
      (fun t => (t.regs.f, busRead t 0xC100, t.regs.pc, t.cpuClock)) =
      some (flags 0b1011, 0x00, 0xC001, 12) := by decide +kernel

/-- V80 (R252). -/
theorem test_dec_at_hl :
    seen (put 0xC100 0x10 (run [0x35] { regs with h := 0xC1, l := 0x00, f := flags 0b1000 }))
      (fun t => (t.regs.f, busRead t 0xC100, t.regs.pc, t.cpuClock)) =
      some (flags 0b0110, 0x0F, 0xC001, 12) := by decide +kernel

/-- V82 (R253). -/
theorem test_daa :
    seen (run [0x27] { regs with a := 0x9A, f := flags 0b0000 })
      (fun t => (t.regs.a, t.regs.f, t.regs.pc, t.cpuClock)) =
      some (0x00, flags 0b1001, 0xC001, 4) := by decide +kernel

/-- V86 (R253). -/
theorem test_daa_again :
    seen (run [0x27] { regs with a := 0x9A, f := flags 0b0111 })
      (fun t => (t.regs.a, t.regs.f, t.regs.pc, t.cpuClock)) =
      some (0x34, flags 0b0101, 0xC001, 4) := by decide +kernel

/-- V89 (R254). -/
theorem test_cpl :
    seen (run [0x2F] { regs with a := 0x35, f := flags 0b1001 })
      (fun t => (t.regs.a, t.regs.f, t.regs.pc, t.cpuClock)) =
      some (0xCA, flags 0b1111, 0xC001, 4) := by decide +kernel

/-- V90 (R255). -/
theorem test_scf :
    seen (run [0x37] { regs with f := flags 0b1110 })
      (fun t => (t.regs.f, t.regs.pc, t.cpuClock)) = some (flags 0b1001, 0xC001, 4) := by decide +kernel

/-- V91 (R256). -/
theorem test_ccf :
    seen (run [0x3F] { regs with f := flags 0b1111 })
      (fun t => (t.regs.f, t.regs.pc, t.cpuClock)) = some (flags 0b1000, 0xC001, 4) := by decide +kernel

/-- V93 (R271). -/
theorem test_add_hl_bc :
    seen (run [0x09] { regs with h := 0x8A, l := 0x23, b := 0x06, c := 0x05, f := flags 0b1000 })
      (fun t => (t.regs.h, t.regs.l, t.regs.f, t.regs.pc, t.cpuClock)) =
      some (0x90, 0x28, flags 0b1010, 0xC001, 8) := by decide +kernel

/-- V97 (R273). -/
theorem test_inc_bc :
    seen (run [0x03] { regs with b := 0xFF, c := 0xFF, f := flags 0b1111 })
      (fun t => (t.regs.b, t.regs.c, t.regs.pc, t.cpuClock)) = some (0x00, 0x00, 0xC001, 8) := by decide +kernel

/-- V98 (R274). -/
theorem test_dec_hl :
    seen (run [0x2B] { regs with h := 0x00, l := 0x00 })
      (fun t => (t.regs.h, t.regs.l, t.regs.pc, t.cpuClock)) = some (0xFF, 0xFF, 0xC001, 8) := by decide +kernel

/-- V103 (R272). -/
theorem test_add_sp_e8 :
    seen (run [0xE8, 0xFF] { regs with sp := 0x0001 })
      (fun t => (t.regs.f, t.regs.sp, t.regs.pc, t.cpuClock)) =
      some (flags 0b0011, 0x0000, 0xC002, 16) := by decide +kernel

/-- V106 (R280). -/
theorem test_rlca :
    seen (run [0x07] { regs with a := 0x85, f := flags 0b1110 })
      (fun t => (t.regs.a, t.regs.f, t.regs.pc, t.cpuClock)) =
      some (0x0B, flags 0b0001, 0xC001, 4) := by decide +kernel

/-- V108 (R281). -/
theorem test_rrca :
    seen (run [0x0F] { regs with a := 0x3B })
      (fun t => (t.regs.a, t.regs.f, t.regs.pc, t.cpuClock)) =
      some (0x9D, flags 0b0001, 0xC001, 4) := by decide +kernel

/-- V109 (R282). -/
theorem test_rla :
    seen (run [0x17] { regs with a := 0x95, f := flags 0b0001 })
      (fun t => (t.regs.a, t.regs.pc, t.cpuClock)) = some (0x2B, 0xC001, 4) := by decide +kernel

/-- V112 (R283). -/
theorem test_rra :
    seen (run [0x1F] { regs with a := 0x00, f := flags 0b0001 })
      (fun t => (t.regs.a, t.regs.f, t.regs.pc, t.cpuClock)) =
      some (0x80, flags 0b0000, 0xC001, 4) := by decide +kernel

/-- V113 (R285). -/
theorem test_rlc_b :
    seen (run [0xCB, 0x00] { regs with b := 0x85 })
      (fun t => (t.regs.f, t.regs.b, t.regs.pc, t.cpuClock)) =
      some (flags 0b0001, 0x0B, 0xC002, 8) := by decide +kernel

/-- V115 (R286). -/
theorem test_rrc_c :
    seen (run [0xCB, 0x09] { regs with c := 0x01 })
      (fun t => (t.regs.f, t.regs.c, t.regs.pc, t.cpuClock)) =
      some (flags 0b0001, 0x80, 0xC002, 8) := by decide +kernel

/-- V117 (R287). -/
theorem test_rl_e :
    seen (run [0xCB, 0x13] { regs with e := 0x80, f := flags 0b0001 })
      (fun t => (t.regs.e, t.regs.pc, t.cpuClock)) = some (0x01, 0xC002, 8) := by decide +kernel

/-- V119 (R288). -/
theorem test_rr_at_hl :
    seen (put 0xC100 0x8A (run [0xCB, 0x1E] { regs with h := 0xC1, l := 0x00, f := flags 0b0001 }))
      (fun t => (t.regs.f, busRead t 0xC100, t.regs.pc, t.cpuClock)) =
      some (flags 0b0000, 0xC5, 0xC002, 16) := by decide +kernel

/-- V120 (R289). -/
theorem test_sla_l :
    seen (run [0xCB, 0x25] { regs with l := 0xFF })
      (fun t => (t.regs.f, t.regs.l, t.regs.pc, t.cpuClock)) =
      some (flags 0b0001, 0xFE, 0xC002, 8) := by decide +kernel

/-- V122 (R290). -/
theorem test_sra_a :
    seen (run [0xCB, 0x2F] { regs with a := 0x8A })
      (fun t => (t.regs.a, t.regs.pc, t.cpuClock)) = some (0xC5, 0xC002, 8) := by decide +kernel

/-- V124 (R291). -/
theorem test_swap_a :
    seen (run [0xCB, 0x37] { regs with a := 0xF1, f := flags 0b1111 })
      (fun t => (t.regs.a, t.regs.f, t.regs.pc, t.cpuClock)) =
      some (0x1F, flags 0b0000, 0xC002, 8) := by decide +kernel

/-- V127 (R292). -/
theorem test_srl_b :
    seen (run [0xCB, 0x38] { regs with b := 0xFF })
      (fun t => (t.regs.f, t.regs.b, t.regs.pc, t.cpuClock)) =
      some (flags 0b0001, 0x7F, 0xC002, 8) := by decide +kernel

/-- V129 (R293). -/
theorem test_bit_4_l :
    seen (run [0xCB, 0x65] { regs with l := 0xEF, f := flags 0b0100 })
      (fun t => (t.regs.f, t.regs.pc, t.cpuClock)) = some (flags 0b1010, 0xC002, 8) := by decide +kernel

/-- V131 (R293). -/
theorem test_bit_1_at_hl :
    seen (put 0xC100 0xFE (run [0xCB, 0x4E] { regs with h := 0xC1, l := 0x00, f := flags 0b1001 }))
      (fun t => (t.regs.f, t.regs.pc, t.cpuClock)) = some (flags 0b0011, 0xC002, 12) := by decide +kernel

/-- V133 (R294). -/
theorem test_res_3_at_hl :
    seen (put 0xC100 0xFF (run [0xCB, 0x9E] { regs with h := 0xC1, l := 0x00 }))
      (fun t => (busRead t 0xC100, t.regs.pc, t.cpuClock)) = some (0xF7, 0xC002, 16) := by decide +kernel

/-- V135 (R295). -/
theorem test_set_7_at_hl :
    seen (put 0xC100 0x00 (run [0xCB, 0xFE] { regs with h := 0xC1, l := 0x00 }))
      (fun t => (busRead t 0xC100, t.regs.pc, t.cpuClock)) = some (0x80, 0xC002, 16) := by decide +kernel

/-- V138 (R313). -/
theorem test_jp_hl :
    seen (run [0xE9] { regs with h := 0xD1, l := 0x23 })
      (fun t => (t.regs.pc, t.cpuClock)) = some (0xD123, 4) := by decide +kernel

/-- V141 (R314). -/
theorem test_jr_e8 :
    seen (run [0x18, 0x80] regs)
      (fun t => (t.regs.pc, t.cpuClock)) = some (0xBF82, 12) := by decide +kernel

/-- V144 (R315). -/
theorem test_jr_nz_e8 :
    seen (run [0x20, 0x05] { regs with f := flags 0b1000 })
      (fun t => (t.regs.pc, t.cpuClock)) = some (0xC002, 8) := by decide +kernel

/-- V152 (R312). -/
theorem test_jp_z_a16 :
    seen (run [0xCA, 0x34, 0x12] { regs with f := flags 0b1000 })
      (fun t => (t.regs.pc, t.cpuClock)) = some (0x1234, 16) := by decide +kernel

/-- V156 (R317). -/
theorem test_call_nz_a16 :
    seen (run [0xC4, 0x34, 0x12] { regs with f := flags 0b1000 })
      (fun t => (t.regs.pc, t.cpuClock)) = some (0xC003, 12) := by decide +kernel

/-- V158 (R318). -/
theorem test_ret :
    seen (put 0xFFFD 0x80 (put 0xFFFC 0x03 (run [0xC9] { regs with sp := 0xFFFC })))
      (fun t => (t.regs.sp, t.regs.pc, t.cpuClock)) = some (0xFFFE, 0x8003, 16) := by decide +kernel

/-- V159 (R319). -/
theorem test_ret_nz :
    seen (put 0xFFFD 0x80 (put 0xFFFC 0x03 (run [0xC0] { regs with sp := 0xFFFC, f := flags 0b0000 })))
      (fun t => (t.regs.sp, t.regs.pc, t.cpuClock)) = some (0xFFFE, 0x8003, 20) := by decide +kernel

/-- V163 (R322). -/
theorem test_reti :
    seen (put 0xFFFD 0x01 (put 0xFFFC 0x50 (run [0xD9] { regs with sp := 0xFFFC })))
      (fun t => (t.regs.sp, t.ime, t.regs.pc, t.cpuClock)) = some (0xFFFE, true, 0x0150, 16) := by decide +kernel

/-- V164 (R325). -/
theorem test_rst_0x28 :
    seen (run [0xEF] regs)
      (fun t => (t.regs.sp, busRead t 0xFFFD, busRead t 0xFFFC, t.regs.pc, t.cpuClock)) =
      some (0xFFFC, 0xC0, 0x01, 0x0028, 16) := by decide +kernel

/-- V170 (R332). -/
theorem test_halt :
    seen ({ run [0x76] regs with ie := 0x04, iflag := 0x04, imePending := true })
      (fun t => (t.ime, t.imePending, t.haltBug, t.regs.pc, t.cpuClock)) =
      some (true, false, true, 0xC001, 4) := by decide +kernel

/-- V173 (R334). -/
theorem test_stop :
    seen (run [0x10, 0x00] regs)
      (fun t => (t.cpuState, t.regs.pc, t.cpuClock)) = some (.stopped, 0xC002, 4) := by decide +kernel

/-- V176 (R336). -/
theorem test_di :
    seen ({ run [0xF3] regs with imePending := true })
      (fun t => (t.imePending, t.regs.pc, t.cpuClock)) = some (false, 0xC001, 4) := by decide +kernel

/-- V178 (R337). -/
theorem test_ei :
    seen ({ run [0xFB] regs with ime := true })
      (fun t => (t.imePending, t.regs.pc, t.cpuClock)) = some (true, 0xC001, 4) := by decide +kernel

/-- V179 (R291). -/
theorem test_swap_a_again :
    seen ({ run [0xCB, 0x37] { regs with a := 0x12 } with imePending := true })
      (fun t => (t.regs.a, t.ime, t.imePending, t.regs.pc, t.cpuClock)) =
      some (0x21, true, false, 0xC002, 8) := by decide +kernel

/-- V180 (R340). -/
theorem test_illegal :
    seen (run [0xDD] regs)
      (fun t => (t.cpuState, t.regs.pc, t.cpuClock)) =
      some (.faulted (.illegalOpcode 0xDD 0xC000), 0xC001, 0) := by decide +kernel


/-! ## Steps, interrupts, HALT and STOP -/

/-- S1, step 3: the entry pushes 0xC002, withdraws `IF[0]`, and costs 20. -/
theorem test_interrupt_entry :
    seen { run [] { regs with pc := 0xC002 } with ime := true, ie := 0x01, iflag := 0x01 }
      (fun t => (t.regs.pc, t.ime, t.iflag, busRead t 0xFFFD, busRead t 0xFFFC, t.cpuClock)) =
      some (0x0040, false, 0, 0xC0, 0x02, 20) := by decide +kernel
/-- S2, step 1: the lowest source first. -/
theorem test_interrupt_priority :
    seen { base with ime := true, ie := 0x1F, iflag := 0x14 } (fun t => (t.regs.pc, t.iflag)) = some (0x0050, 0x10) := by
  decide +kernel
/-- S4: a request that `IE` masks is not serviced. -/
theorem test_interrupt_masked :
    seen { base with ime := true, ie := 0x10, iflag := 0x0F } (fun t => (t.regs.pc, t.iflag)) = some (0xC001, 0x0F) := by
  decide +kernel
/-- S5a, step 6: a request leaves `Halted` with `IME` clear, and the instruction after HALT runs. -/
theorem test_halt_wakes :
    seen { run [0x3C] regs with cpuState := .halted, ie := 0x04, iflag := 0x04 }
      (fun t => (t.cpuState, t.regs.a, t.regs.pc)) = some (.running, 0x01, 0xC001) := by decide +kernel
/-- S6b, step 4: under the quirk the operand is the opcode byte again. -/
theorem test_halt_bug_operand :
    seen { run [0x3E, 0x14] regs with haltBug := true } (fun t => (t.regs.a, t.regs.pc, t.haltBug)) =
      some (0x3E, 0xC001, false) := by decide +kernel
/-- S10: STOP is not left by a request; the devices go on. -/
theorem test_stop_stays :
    seen { base with cpuState := .stopped, ie := 0x1F, iflag := 0x1F } (fun t => (t.cpuState, t.timer.div)) =
      some (.stopped, 0x0004) := by decide +kernel
/-- R334: under the predicate of the joypad lines, a low line ends STOP and the instruction after it runs. -/
theorem test_stop_wakes :
    seen
      { run [0x3C] regs with
        cpuState := .stopped, joypSelect := 0b10, buttons := { direction := 1, action := 0 }
        params := { defaultParams with stopWake := .joypadLine } }
      (fun t => (t.cpuState, t.regs.a)) = some (.running, 0x01) := by decide +kernel

/-! ## The timer -/

/-- T2, step 4: the overflow opens the window and makes no request. -/
theorem test_timer_overflow :
    seen { base with timer := { base.timer with tac := 5, tima := 0xFF, tma := 0xAB, div := 0x0C, divLast := 0x0C } }
      (fun t => (t.timer.tima, t.timer.overflow, t.iflag)) = some (0x00, true, 0) := by decide +kernel
/-- T2, step 5: the reload and the request. -/
theorem test_timer_reload :
    seen
      { base with
        timer := { base.timer with tac := 5, tima := 0x00, tma := 0xAB, div := 0x10, divLast := 0x10, overflow := true } }
      (fun t => (t.timer.tima, t.timer.overflow, t.iflag)) = some (0xAB, false, 0x04) := by decide +kernel
/-- T4, step 1: a store to `DIV` that makes a falling edge. -/
theorem test_timer_div_store :
    seen
      { run [0xE0, 0x04] { regs with a := 0x99 } with
        timer := { base.timer with tac := 5, tima := 0x10, div := 0x08, divLast := 0x08 } }
      (fun t => (t.timer.tima, t.timer.div)) = some (0x11, 0x000C) := by decide +kernel
/-- T5: a store to `TAC` makes no evaluation. -/
theorem test_timer_tac_store :
    seen
      { run [0xE0, 0x07] { regs with a := 0x04 } with
        timer := { base.timer with tac := 5, tima := 0x10, div := 0x08, divLast := 0x08 } }
      (fun t => (t.timer.tima, t.timer.tac, t.timer.div)) = some (0x10, 4, 0x0014) := by decide +kernel

/-! ## OAM DMA -/

/-- M1, step 2: the copy passes the closed gate, the instruction's own load does not. -/
theorem test_dma_copy :
    seen
      { run [0xFA, 0x00, 0xFE] regs with
        dma := 0xC0, dmaPending := true, ppu := { base.ppu with vramAccess := false, oamAccess := false } }
      (fun t => (t.oam, t.regs.a, t.dmaPending, t.ppu.oamAccess)) =
      some ([(0, 0xFA), (2, 0xFE)], 0xFF, false, false) := by decide +kernel
/-- M5: page 0xFE. -/
theorem test_dma_overlap :
    seen { base with dma := 0xFE, dmaPending := true } (fun t => (t.cpuState, t.oam, t.regs.pc, t.cpuClock)) =
      some (.faulted (.dmaOverlap 0xFE), [], 0xC000, 0) := by decide +kernel

/-! ## The cartridge -/

/-- A cartridge of MBC1 with 32 KiB of RAM, 128 banks, and its bank number at the start of bank 37. -/
def mbc1Cart (m : Mbc1) : Cart :=
  { cap := { family := .mbc1, hasRam := true, hasBattery := false, hasTimer := false, hasRumble := false
             ramSize := 0x8000, romBankCount := 128 }
    rom := [(0x4000 * 37, 37)], ram := [(0x4000, 0x66)], ctrl := .mbc1 m }

/-- B2: `bank_hi` 1, a store of 0xE5 to 0x2000, mode 0: bank 37. -/
theorem test_mbc1_bank :
    busRead
      (busWrite 0x2000 0xE5
        { base with cart := mbc1Cart { ramEnable := false, bankLo := 1, bankHi := 1, mode := false } }) 0x4000 = 37 := by
  decide +kernel
/-- B3: RAM bank 2 in mode 1; disabled RAM reads 0xFF. -/
theorem test_mbc1_ram :
    busRead { base with cart := mbc1Cart { ramEnable := true, bankLo := 1, bankHi := 2, mode := true } } 0xA000 = 0x66 ∧
      busRead { base with cart := mbc1Cart { ramEnable := false, bankLo := 1, bankHi := 2, mode := true } } 0xA000 =
        0xFF := by decide +kernel

/-- A cartridge of MBC3 with a clock and no RAM. -/
def mbc3Cart (m : Mbc3) : Cart :=
  { cap := { family := .mbc3, hasRam := false, hasBattery := true, hasTimer := true, hasRumble := false
             ramSize := 0, romBankCount := 4 }
    rom := [], ram := [], ctrl := .mbc3 m }

/-- MBC3 registers with the clock selected at register `k`. -/
def mbc3Regs (k : BitVec 4) : Mbc3 :=
  { ramEnable := true, romBank := 1, ramRtcSelect := k, latchLast := some 0
    rtcLatched := { seconds := 30, minutes := 0, hours := 0, dayLow := 0, dayHigh := 0x41 }
    rtcStartTime := 0, rtcStopped := true, rtcStopTime := 3 * 86400 + 2 * 3600 + 61, rtcCarry := false }

/-- R545, R546: a latch of a stopped clock at 3 days, 2 hours, 1 minute and 1 second. -/
theorem test_mbc3_latch :
    (match (busWrite 0x6000 1 { base with cart := mbc3Cart (mbc3Regs 8) }).cart.ctrl with
      | .mbc3 m => some m.rtcLatched
      | _ => none) = some { seconds := 1, minutes := 1, hours := 2, dayLow := 3, dayHigh := 0x40 } := by decide +kernel
/-- R542, R547: the window reads the latched register. -/
theorem test_mbc3_window : busRead { base with cart := mbc3Cart (mbc3Regs 12) } 0xA000 = 0x41 := by decide +kernel
/-- R524 to R526: a short image has no header. -/
theorem test_load_refuses_short_image :
    loadCartridge [0, 0, 0] none none { now := 0, samples := 0 } = .error (.malformedHeader none) := rfl
/-- R523: rows of the three tables. -/
theorem test_header_tables :
    romBanksOf 0x07 = some 256 ∧ romBanksOf 0x54 = some 96 ∧ romBanksOf 0x08 = none ∧ ramSizeOf 0x05 = some 65536 ∧
      cartTypeOf 0x04 = none := by decide +kernel

/-! ## PPU, APU, joypad -/

/-- Q1: a store of 0x91 to `LCDC` with the display off. -/
theorem test_lcdc_on :
    seen (run [0xE0, 0x40] { regs with a := 0x91 })
      (fun t => (t.ppu.displayEnableTime, t.ppu.swallowFrame, t.ppu.line, busRead t 0xFF41)) =
      some (244, true, 0, 0x84) := by decide +kernel
/-- Q1: entering mode 2 of line 1, at display clock 456. -/
theorem test_mode2_entry :
    seen { base with cpuClock := 696, ppu := { base.ppu with lcdc := 0x91, displayEnableTime := 244 } }
      (fun t => (t.ppu.line, t.ppu.mode, t.ppu.oamAccess, busRead t 0xFF41)) = some (1, .oamScan, false, 0x82) := by
  decide +kernel
/-- Q2, 0x28: mode 0 of one line runs into mode 2 of the next with the line held: no request. -/
theorem test_stat_held :
    seen
      { base with
        cpuClock := 696
        ppu := { base.ppu with lcdc := 0x80, displayEnableTime := 244, statEnables := 0b0101, statLine := true } }
      (fun t => (t.ppu.mode, t.iflag)) = some (.oamScan, 0) := by decide +kernel
/-- R451 to R453: a sprite's leftmost pixel, colour 3, over the background. -/
theorem test_sprite_pixel :
    spriteShade { base.ppu with lcdc := 0x82, obp0 := 0xE4 } [(16, 0x80), (17, 0x80)] 0 0 0
      { index := 0, y := 16, x := 8, tile := 1, attr := 0 } = some 3 := by decide +kernel
/-- R482: the bits of `NR11` that do not read back. -/
theorem test_sound_mask :
    busRead { base with apu := { base.apu with regs := { base.apu.regs with nr11 := 0x80 } } } 0xFF11 = 0xBF := by
  decide +kernel
/-- A2: channel 2 triggered: `NR52` reads 0xF2, and 0xF0 after the length event. -/
theorem test_length_expiry :
    let a := writeApuReg .nr24 0xC0 (writeApuReg .nr21 0x3F (writeApuReg .nr22 0xF0 { base.apu with power := true }))
    readNr52 a = 0xF2 ∧ readNr52 (sequencerTick a) = 0xF0 := by decide +kernel
/-- R482: a duty stored to `NR21` is used from the next reload of the timer, here 8 cycles later. -/
theorem test_duty_waits_for_reload :
    let a := writeApuReg .nr21 0x80
      { base.apu with
        power := true, regs := { base.apu.regs with nr22 := 0xF0 }, ch2 := { base.apu.ch2 with on := true, timer := 8 } }
    let b := channelTimers 4 [] a
    a.ch2.duty = 0 ∧ b.ch2.duty = 0 ∧ (channelTimers 4 [] b).ch2.duty = 2 := by decide +kernel
/-- R102: A pressed, action row selected: line 0 falls, with its request. -/
theorem test_joypad_press :
    let t := hostPress { base with joypSelect := 0b01 } { direction := 0, action := 1 }
    busRead t 0xFF00 = 0xDE ∧ t.iflag = 0x10 := by decide +kernel

/-! ## Where a step fetches -/

/-- After reset an instruction placed where the next step fetches is the one that runs. -/
theorem test_withFetchWord :
    seen (State.reset.withFetchWord 16 0xCBC7) (fun t => (t.regs.a, t.regs.pc, t.cpuClock)) = some (0x01, 0x0002, 8) := by
  decide +kernel

/-! ## Witnesses: a state and operands for the hypotheses of each statement -/

theorem witness_DecodeOfEncode :
    (Instr.wellFormed (.illegal 0xFD) = true ∧ Instr.illegal 0xFD ≠ .prefixCb) ∧
      (Instr.wellFormed (.ldHlSpE8 0xFF) = true ∧ Instr.ldHlSpE8 0xFF ≠ .prefixCb) ∧
      (Instr.wellFormed .prefixCb = true ∧ ([] : List Byte) = []) := by decide +kernel

/-- Decoding goes by the bytes alone. -/
theorem decode_of_bytes {l m : List Byte} {r : Except DecodeError (Instr × List Byte)} (h : l = m) (hm : decode m = r) :
    decode l = r := h ▸ hm

/-- The machine that fetches or takes an interrupt, as the statements about steps name it. -/
def fetching (s : State) : State := wake (runDma (takeHostInput s))

/-- Without and with the halt quirk, and after input, a copy and a wake-up. -/
theorem witness_StepRunsDecodedInstruction :
    (∃ s : State, s.cpuState = .running ∧ s.hostInputs = [] ∧ s.dmaPending = false) ∧
    (∃ s : State, (fetching s).cpuState = .running ∧ interruptDue (fetching s) = false ∧
      decode [busRead (fetching s) (fetching s).regs.pc, busRead (fetching s) (operandAddress (fetching s)),
        busRead (fetching s) (operandAddress (fetching s) + 1)] = .ok (.ldHlSpE8 0xFE, [0x77])) ∧
    (∃ s : State, s.haltBug = true ∧ (fetching s).cpuState = .running ∧ interruptDue (fetching s) = false ∧
      decode [busRead (fetching s) (fetching s).regs.pc, busRead (fetching s) (operandAddress (fetching s)),
        busRead (fetching s) (operandAddress (fetching s) + 1)] = .ok (.ldHlSpE8 0xF8, [0xFE])) ∧
    (∃ s : State, s.cpuState = .halted ∧ s.dmaPending = true ∧ s.hostInputs ≠ [] ∧ (fetching s).cpuState = .running ∧
      interruptDue (fetching s) = false ∧
      decode [busRead (fetching s) (fetching s).regs.pc, busRead (fetching s) (operandAddress (fetching s)),
        busRead (fetching s) (operandAddress (fetching s) + 1)] = .ok (.ldHlSpE8 0xFE, [0x77])) ∧
    (∃ s : State, (fetching s).ime = true ∧ ((fetching s).ie.getLsbD 4 && (fetching s).iflag.getLsbD 4) = true) ∧
    (∃ s t : State, NotFaulted s ∧ s.imePending = true ∧ t.cpuState = .faulted (.dmaOverlap 0xFE)) := by
  refine ⟨⟨base, rfl, rfl, rfl⟩, ⟨run [0xF8, 0xFE, 0x77] regs, rfl, rfl, ?_⟩,
    ⟨{ run [0xF8, 0xFE, 0x77] regs with haltBug := true }, rfl, rfl, rfl, ?_⟩,
    ⟨{ run [0xF8, 0xFE, 0x77] regs with
        cpuState := .halted, ie := 1, iflag := 1, dma := 0xC0, dmaPending := true
        hostInputs := [[{ direction := 1, action := 0 }]] }, rfl, rfl, by decide, by decide +kernel, by decide +kernel, ?_⟩,
    ⟨{ base with ime := true, ie := 0x10, iflag := 0x10 }, by decide +kernel⟩,
    ⟨{ base with imePending := true }, { base with cpuState := .faulted (.dmaOverlap 0xFE) }, nofun, rfl, rfl⟩⟩
  · exact decode_of_bytes (m := [0xF8, 0xFE, 0x77]) (by decide +kernel) rfl
  · exact decode_of_bytes (m := [0xF8, 0xF8, 0xFE]) (by decide +kernel) rfl
  · exact decode_of_bytes (m := [0xF8, 0xFE, 0x77]) (by decide +kernel) rfl

/-- A base-page instruction, a conditional one that is taken, one that is not, and a step. -/
theorem witness_InstructionCosts :
    base.params.costChanges = [] ∧
    (Instr.wellFormed (.ldHlSpE8 0xFE) = true ∧ encode (.ldHlSpE8 0xFE) = [0xF8, 0xFE] ∧
      ∀ cc e nn, Instr.ldHlSpE8 0xFE ≠ .jrIf cc e ∧ Instr.ldHlSpE8 0xFE ≠ .jpIf cc nn ∧
        Instr.ldHlSpE8 0xFE ≠ .callIf cc nn ∧ Instr.ldHlSpE8 0xFE ≠ .retIf cc) ∧
    (encode (.jrZE8 0x05) = [0x28, 0x05] ∧
      ∀ cc e nn, condHolds cc (flags 0b1000) = false → Instr.jrZE8 0x05 ≠ .jrIf cc e ∧
        Instr.jrZE8 0x05 ≠ .jpIf cc nn ∧ Instr.jrZE8 0x05 ≠ .callIf cc nn ∧ Instr.jrZE8 0x05 ≠ .retIf cc) ∧
    condHolds .nz (flags 0b1000) = false ∧ condHolds .z (flags 0) = false ∧
    ∃ t, (fetching base).cpuState = .running ∧ interruptDue (fetching base) = false ∧ step base = .next t ∧
      NotFaulted t := by
  refine ⟨rfl, ⟨rfl, rfl, ?_⟩, ⟨rfl, ?_⟩, rfl, rfl, ?_⟩
  · intro cc e nn
    cases cc <;> simp [Instr.jrIf, Instr.jpIf, Instr.callIf, Instr.retIf]
  · intro cc e nn h
    cases cc <;> simp [Instr.jrIf, Instr.jpIf, Instr.callIf, Instr.retIf, condHolds, flags] at h ⊢
  · obtain ⟨t, ht, hc⟩ := step_of_seen (s := base) (f := fun t => t.cpuState) (v := .running) (by decide +kernel)
    exact ⟨t, rfl, rfl, ht, notFaulted_of_running hc⟩

theorem witness_StepFaultsOnlyWhenFaulted :
    NotFaulted base ∧ ¬ NotFaulted { base with cpuState := .faulted (.dmaOverlap 0xFE) } :=
  ⟨notFaulted_of_running rfl, fun h => h _ rfl⟩

/-- A running machine with source 0, a halted one with source 4, and a stopped one that a low line wakes. -/
theorem witness_StepTakesLowestInterrupt :
    let u := fun s : State => runDma (takeHostInput s)
    (∃ s : State, s.hostInputs = [] ∧ s.dmaPending = false ∧ (u s).cpuState = .running ∧ (u s).ime = true ∧
      ((u s).ie.getLsbD 0 && (u s).iflag.getLsbD 0) = true) ∧
    (∃ s : State, (u s).cpuState = .halted ∧ (u s).ime = true ∧ ((u s).ie.getLsbD 4 && (u s).iflag.getLsbD 4) = true ∧
      ∀ j < 4, ((u s).ie.getLsbD j && (u s).iflag.getLsbD j) = false) ∧
    (∃ s : State, (u s).cpuState = .stopped ∧ stopWakes (u s) = true ∧ (u s).ime = true ∧
      ((u s).ie.getLsbD 4 && (u s).iflag.getLsbD 4) = true ∧
      ∀ j < 4, ((u s).ie.getLsbD j && (u s).iflag.getLsbD j) = false) :=
  ⟨⟨{ base with ime := true, ie := 0x1F, iflag := 0x1F }, by decide +kernel⟩,
    ⟨{ base with cpuState := .halted, ime := true, ie := 0x10, iflag := 0x1F }, by decide +kernel⟩,
    ⟨{ base with
        cpuState := .stopped, ime := true, ie := 0x10, joypSelect := 0b10
        params := { defaultParams with stopWake := .joypadLine }, hostInputs := [[{ direction := 1, action := 0 }]] },
      by decide +kernel⟩⟩

theorem witness_InterruptEntryEffect : 0 < 5 ∧ 4 < 5 := by decide

/-- A halted machine with a request and one without, a stopped one, and one that a low line wakes. -/
theorem witness_HaltedStep :
    let u := fun s : State => runDma (takeHostInput s)
    (∃ s : State, s.hostInputs = [] ∧ s.dmaPending = false ∧ s.cpuState = .halted ∧
      ∃ n < 5, ((u s).ie.getLsbD n && (u s).iflag.getLsbD n) = true) ∧
    (∃ s : State, (u s).cpuState = .halted ∧ ∀ n < 5, ((u s).ie.getLsbD n && (u s).iflag.getLsbD n) = false) ∧
    (∃ s : State, (u s).cpuState = .stopped ∧ (u s).params.stopWake = .never ∧ stopWakes (u s) = false) ∧
    (∃ s : State, s.cpuState = .stopped ∧ (u s).params.stopWake = .joypadLine ∧ stopWakes (u s) = true ∧
      (busRead (u s) 0xFF00).getLsbD 3 = false) :=
  ⟨⟨{ base with cpuState := .halted, ie := 0x10, iflag := 0x10 }, rfl, rfl, rfl, 4, by decide, by decide +kernel⟩,
    ⟨{ base with cpuState := .halted, ie := 0xE0, iflag := 0x1F }, by decide +kernel⟩,
    ⟨{ base with cpuState := .stopped }, by decide +kernel⟩,
    ⟨{ base with
        cpuState := .stopped, joypSelect := 0b01, params := { defaultParams with stopWake := .joypadLine }
        hostInputs := [[{ direction := 0, action := 8 }]] }, by decide +kernel⟩⟩

/-- Pages 0xFF and 0xFE, with and without input, and the first and last byte copied. -/
theorem witness_OamDma :
    (∃ s : State, s.dmaPending = true ∧ s.dma ≠ 0xFE ∧ s.hostInputs = [] ∧ 0 < 160 ∧ 159 < 160) ∧
    (∃ s : State, s.dmaPending = true ∧ s.dma = 0xFE ∧ NotFaulted s ∧ s.hostInputs ≠ []) :=
  ⟨⟨{ base with dma := 0xFF, dmaPending := true }, by decide +kernel⟩,
    ⟨{ base with dma := 0xFE, dmaPending := true, hostInputs := [[]] }, rfl, rfl, notFaulted_of_running rfl,
      by decide⟩⟩

theorem witness_EiTakesEffectAfterOneInstruction :
    ∃ s t : State, (fetching s).cpuState = .running ∧ interruptDue (fetching s) = false ∧ s.imePending = true ∧
      fetchInstr (fetching s) ≠ .di ∧ step s = .next t ∧ NotFaulted t := by
  obtain ⟨t, ht, hc⟩ := step_of_seen (s := { base with imePending := true }) (f := fun t => t.cpuState) (v := .running)
    (by decide +kernel)
  exact ⟨_, t, rfl, rfl, rfl, by decide +kernel, ht, notFaulted_of_running hc⟩

/-- A register operand and `(HL)`: for LoadsOfOneByte, IncrementAndDecrementByte, RotatesAndShifts and BitResAndSet. -/
theorem witness_operands : Operand8.a ≠ .atHl ∧ Operand8.b ≠ .atHl ∧ Operand8.atHl = .atHl := by decide

/-- The immediate form, a register form and the `(HL)` form of AddAndAdc. -/
theorem witness_AddAndAdc :
    (∃ (x : Byte) (i j : Instr), i = .aluImm .add x ∧ j = .aluImm .adc x) ∧
      (∃ (x : Byte) (i j : Instr), x = getOperand8 .b base ∧ i = .alu .add .b ∧ j = .alu .adc .b) ∧
      ∃ (x : Byte) (i j : Instr), x = getOperand8 .atHl base ∧ i = .alu .add .atHl ∧ j = .alu .adc .atHl :=
  ⟨⟨0xFF, _, _, rfl, rfl⟩, ⟨_, _, _, rfl, rfl, rfl⟩, ⟨_, _, _, rfl, rfl, rfl⟩⟩

/-- The same forms of SubSbcAndCp. -/
theorem witness_SubSbcAndCp :
    (∃ (x : Byte) (i j k : Instr), i = .aluImm .sub x ∧ j = .aluImm .sbc x ∧ k = .aluImm .cp x) ∧
      ∃ (x : Byte) (i j k : Instr), x = getOperand8 .atHl base ∧ i = .alu .sub .atHl ∧ j = .alu .sbc .atHl ∧
        k = .alu .cp .atHl := ⟨⟨0xFF, _, _, _, rfl, rfl, rfl⟩, ⟨_, _, _, _, rfl, rfl, rfl, rfl⟩⟩

/-- The same forms of BitwiseLogic, and the last bit. -/
theorem witness_BitwiseLogic :
    (∃ (x : Byte) (i j k : Instr), i = .aluImm .and x ∧ j = .aluImm .xor x ∧ k = .aluImm .or x) ∧
      (∃ (x : Byte) (i j k : Instr), x = getOperand8 .a base ∧ i = .alu .and .a ∧ j = .alu .xor .a ∧ k = .alu .or .a) ∧
      7 < 8 := ⟨⟨0xFF, _, _, _, rfl, rfl, rfl⟩, ⟨_, _, _, _, rfl, rfl, rfl, rfl⟩, by decide⟩

/-- 99 and 99 in the immediate form, 00 and 99 in a register form, 50 and 00 in the `(HL)` form. -/
theorem witness_DecimalArithmetic :
    (∃ s : State, s.regs.a = BitVec.ofNat 8 (16 * 9 + 9) ∧ 9 ≤ 9) ∧
      (∃ s : State, s.regs.a = BitVec.ofNat 8 (16 * 0 + 0) ∧ getOperand8 .b s = BitVec.ofNat 8 (16 * 9 + 9)) ∧
      ∃ s : State, s.regs.a = BitVec.ofNat 8 (16 * 5 + 0) ∧ getOperand8 .atHl s = BitVec.ofNat 8 (16 * 0 + 0) :=
  ⟨⟨run [] { regs with a := 0x99 }, by decide⟩, ⟨run [] { regs with b := 0x99 }, by decide⟩,
    ⟨run [] { regs with a := 0x50, h := 0xC1 }, by decide +kernel⟩⟩

/-- Each of the four rotates of `A`. -/
theorem witness_RotatesAndShifts :
    ∀ o : RotOp, (o = .rlc ∨ o = .rrc ∨ o = .rl ∨ o = .rr) →
      ∃ i : Instr, (o = .rlc ∧ i = .rlca) ∨ (o = .rrc ∧ i = .rrca) ∨ (o = .rl ∧ i = .rla) ∨ (o = .rr ∧ i = .rra) := by
  rintro o (rfl | rfl | rfl | rfl) <;> simp

theorem witness_MemoryInv : MemoryInv base := by unfold MemoryInv IsArray; decide +kernel

/-- Every form of call and of return, with a stack across the two halves of work RAM. -/
theorem witness_CallThenReturn :
    ∃ s : State, MemoryInv s ∧ isStorable s (s.regs.sp - 1) = true ∧ isStorable s (s.regs.sp - 2) = true ∧
      cellOf s (s.regs.sp - 1) ≠ cellOf s (s.regs.sp - 2) ∧ condHolds .nz s.regs.f = true ∧
      ∃ l m n t u v : State, exec (.callA16 0x1234) s = .next l ∧ exec .ret l = .next t ∧
        exec (.callIf .nz 0x1234) s = .next m ∧ exec (.retIf .nz) m = .next u ∧
        exec (.rst .b7) s = .next n ∧ exec .reti n = .next v :=
  ⟨run [] { regs with sp := 0xD001 }, by unfold MemoryInv IsArray; decide +kernel, by decide +kernel,
    by decide +kernel, by decide +kernel, rfl, _, _, _, _, _, _, rfl, rfl, rfl, rfl, rfl, rfl⟩

/-- `RETI_DELAYED` clear and set: for ControlTransfers and CallThenReturn. -/
theorem witness_ControlTransfers :
    (∃ s : State, s.params.retiDelayed = false) ∧ ∃ s : State, s.params.retiDelayed = true :=
  ⟨⟨base, rfl⟩, ⟨{ base with params := { defaultParams with retiDelayed := true } }, rfl⟩⟩

/-- The quirk after EI, the quirk of `HALT_BUG_CLASSIC`, and a plain HALT. -/
theorem witness_CpuControl :
    (∃ s : State, (∃ n < 5, (s.ie.getLsbD n && s.iflag.getLsbD n) = true) ∧ s.imePending = true) ∧
    (∃ s : State, (∃ n < 5, (s.ie.getLsbD n && s.iflag.getLsbD n) = true) ∧ s.params.haltBugClassic = true ∧
      s.ime = false) ∧
    (∃ s : State, ∀ n < 5, (s.ie.getLsbD n && s.iflag.getLsbD n) = false) :=
  ⟨⟨{ base with ie := 0x10, iflag := 0x10, imePending := true }, ⟨4, by decide, by decide⟩, rfl⟩,
    ⟨{ base with ie := 1, iflag := 1, params := { defaultParams with haltBugClassic := true } },
      ⟨0, by decide, by decide⟩, rfl, rfl⟩,
    ⟨{ base with ie := 0xFF }, by decide +kernel⟩⟩

theorem witness_IllegalOpcodeFaults :
    (Instr.illegal 0xFD).wellFormed = true ∧
      ∀ quirk : Bool, ∃ s : State, (fetching s).cpuState = .running ∧ (fetching s).haltBug = quirk ∧
        interruptDue (fetching s) = false ∧ busRead (fetching s) (fetching s).regs.pc = 0xFD :=
  ⟨rfl, fun quirk => ⟨{ run [0xFD] regs with haltBug := quirk }, by cases quirk <;> decide +kernel⟩⟩

theorem witness_FlagsKeptElsewhere :
    (∃ i t, exec i base = .next t ∧ ∃ dst src, i = .load dst src) ∧ (∃ i t, exec i base = .next t ∧ i = .ei) :=
  ⟨⟨_, _, rfl, .b, .c, rfl⟩, ⟨_, _, rfl, rfl⟩⟩

theorem witness_TimerCountsTapEdges :
    1023 < 1024 ∧ ∃ t : Timer, t.div = 0 ∧ t.divLast = 0 ∧ t.tima = 0 ∧ t.tac = 0b101 ∧ t.overflow = false :=
  ⟨by decide, { State.reset.timer with tac := 0b101 }, by decide +kernel⟩

theorem witness_TimerModulo : ∃ s : State, s.timer.overflow = true :=
  ⟨{ base with timer := { base.timer with overflow := true } }, rfl⟩

theorem witness_LcdControlAndStatus : ∃ s : State, s.ppu.line < 256 ∧ s.ppu.line = 153 :=
  ⟨{ base with ppu := { base.ppu with line := 153 } }, by decide +kernel⟩

/-- The display on since clock 244, at clock `clock`. -/
def displaying (clock : Nat) (p : Ppu) : State :=
  { base with cpuClock := clock, ppu := { p with lcdc := 0x82, displayEnableTime := 244 } }

/-- Line 144 entered with the frame withheld and with it published, modes 2 and 0 entered, and nothing entered. -/
theorem witness_PpuStepEffect :
    let dc := fun s : State => s.cpuClock - s.ppu.displayEnableTime
    let moves := fun (s : State) (line : Nat) (mode : PpuMode) =>
      s.ppu.lcdc.getLsbD 7 = true ∧ s.ppu.displayEnableTime ≤ s.cpuClock ∧
        (line, mode) = schedule s.params.mode3Len (dc s) ∧ ¬(s.ppu.line = line ∧ s.ppu.mode = mode)
    (∃ s, moves s 144 .vblank ∧ s.ppu.swallowFrame = true) ∧ (∃ s, moves s 144 .vblank ∧ s.ppu.swallowFrame = false) ∧
      (∃ s, moves s 1 .oamScan) ∧ (∃ s, moves s 0 .hblank ∧ s.ppu.mode = .transfer) ∧
      ∃ s : State, s.ppu.lcdc.getLsbD 7 = false :=
  ⟨⟨displaying 65908 { base.ppu with swallowFrame := true }, by decide +kernel⟩,
    ⟨displaying 66363 base.ppu, by decide +kernel⟩, ⟨displaying 700 base.ppu, by decide +kernel⟩,
    ⟨displaying 699 { base.ppu with mode := .transfer }, by decide +kernel⟩, ⟨base, by decide +kernel⟩⟩

/-- Line 0 about to be drawn, with one sprite of colour 3 in columns 8 to 15. -/
def drawing : State :=
  { displaying 324 { base.ppu with mode := .oamScan } with
    vram := [(16, 0xFF), (17, 0xFF)], oam := [(0, 16), (1, 16), (2, 1)] }

/-- A pixel that no sprite paints, and the leftmost and rightmost pixel that the sprite paints. -/
theorem witness_RenderedLine :
    (ppuStep drawing).ppu.mode = .transfer ∧ (ppuStep drawing).ppu.line = 0 ∧ drawing.ppu.mode ≠ .transfer ∧
      VisibleSprite drawing 0 0 ∧ PaintsPixel drawing 0 0 8 ∧ PaintsPixel drawing 0 0 15 ∧
      (∀ j, VisibleSprite drawing 0 j → ¬BeatsSprite drawing j 0) ∧
      ∀ i, ¬(VisibleSprite drawing 0 i ∧ PaintsPixel drawing 0 i 159) := by
  have only : ∀ j < 40, OverlapsLine drawing 0 j → j = 0 := by unfold OverlapsLine; decide +kernel
  have unbeaten : ¬BeatsSprite drawing 0 0 := by unfold BeatsSprite; decide +kernel
  refine ⟨by decide +kernel, by decide +kernel, by decide +kernel, ⟨by decide +kernel, by decide, ?_, ?_⟩, ?_, ?_, ?_, ?_⟩
  · unfold OverlapsLine; decide +kernel
  · rintro (_ | ⟨j, l⟩) _ h
    · decide
    · obtain ⟨h40, ho, hb⟩ := h j (List.mem_cons_self ..)
      rw [only j h40 ho] at hb
      exact absurd hb unbeaten
  · exact ⟨0, by decide +kernel⟩
  · exact ⟨7, by decide +kernel⟩
  · rintro j ⟨_, h40, ho, _⟩
    rw [only j h40 ho]
    exact unbeaten
  · rintro i ⟨⟨_, h40, ho, _⟩, col, hcol, hx, _⟩
    rw [only i h40 ho] at hx
    have : (oamByte drawing 0 1).toNat = 16 := by decide +kernel
    omega

/-- The sound unit on. -/
def sounding (a : Apu) : Apu := { a with power := true }

/-- The APU off and in its ranges, on with bit 7 of the store clear, and on or off with it set. -/
theorem witness_SoundRegisters :
    (ApuInv base ∧ base.apu.power = false) ∧
      ∃ (s : State) (v w : Byte), s.apu.power = true ∧ v.getLsbD 7 = false ∧ w.getLsbD 7 = true :=
  ⟨⟨by unfold ApuInv; decide +kernel, rfl⟩, { base with apu := sounding base.apu }, 0x7F, 0x80, by decide +kernel⟩

theorem witness_ChannelTriggers : ∃ (s : State) (v : Byte), s.apu.power = true ∧ v.getLsbD 7 = true :=
  ⟨{ base with apu := sounding base.apu }, 0x87, by decide +kernel⟩

/-- A length that runs out; an envelope that steps; a sweep that updates, one that overflows at once, and one that
overflows after its update. -/
theorem witness_FrameSequencerTick :
    (∃ a : Apu, a.seqPos.toNat % 2 = 0 ∧ a.regs.nr14.getLsbD 6 = true ∧ a.ch1.len = 1) ∧
    (∃ a : Apu, a.seqPos.toNat = 7 ∧ a.regs.nr12.toNat % 8 ≠ 0 ∧ a.ch1.envTimer = 1) ∧
    ∀ f : Nat × BitVec 11, f ∈ [(1500, 1000), (2250, 1500), (1800, 1200)] →
      ∃ a : Apu, a.seqPos.toNat = 6 ∧ a.sweep.timer = 1 ∧ a.sweep.on = true ∧ a.regs.nr10.toNat / 16 % 8 ≠ 0 ∧
        a.regs.nr10.toNat % 8 = 1 ∧ a.sweep.shadow.toNat + a.sweep.shadow.toNat / 2 ^ 1 = f.1 := by
  refine ⟨⟨{ base.apu with regs := { base.apu.regs with nr14 := 0x40 }, ch1 := { base.apu.ch1 with len := 1 } },
      by decide +kernel⟩,
    ⟨{ base.apu with
        seqPos := 7, regs := { base.apu.regs with nr12 := 0xF1 }, ch1 := { base.apu.ch1 with envTimer := 1 } },
      by decide +kernel⟩, ?_⟩
  rintro ⟨n, shadow⟩ h
  refine ⟨{ base.apu with
    seqPos := 6, regs := { base.apu.regs with nr10 := 0x11 }, sweep := { timer := 1, on := true, shadow := shadow } },
    rfl, rfl, rfl, (by decide : (0x11 : Byte).toNat / 16 % 8 ≠ 0), (by decide : (0x11 : Byte).toNat % 8 = 1), ?_⟩
  simp only [List.mem_cons, Prod.mk.injEq, List.not_mem_nil, or_false] at h
  rcases h with ⟨rfl, rfl⟩ | ⟨rfl, rfl⟩ | ⟨rfl, rfl⟩ <;> rfl

/-- Every channel enabled, at the clock's tick and not, and none. -/
theorem witness_ApuMachineCycle :
    (∃ a : Apu, a.power = true ∧ a.ch1.on = true ∧ a.regs.nr12.toNat / 8 ≠ 0 ∧ a.ch2.on = true ∧
      a.regs.nr22.toNat / 8 ≠ 0 ∧ a.ch3.on = true ∧ a.regs.nr30.getLsbD 7 = true ∧ a.ch4.on = true ∧
      a.regs.nr42.toNat / 8 ≠ 0 ∧ a.seqDiv + 4 = 8192) ∧
    ∃ a : Apu, a.power = true ∧ a.ch1.on = false ∧ a.ch2.on = false ∧ a.ch3.on = false ∧ a.ch4.on = false ∧
      a.seqDiv + 4 ≠ 8192 :=
  ⟨⟨{ sounding base.apu with
        regs := { base.apu.regs with nr12 := 8, nr22 := 0xF0, nr30 := 0x80, nr42 := 0xFF }, seqDiv := 8188
        ch1 := { base.apu.ch1 with on := true }, ch2 := { base.apu.ch2 with on := true }
        ch3 := { base.apu.ch3 with on := true }, ch4 := { base.apu.ch4 with on := true } }, by decide +kernel⟩,
    ⟨sounding base.apu, by decide +kernel⟩⟩

/-- An image with a type, a ROM-size code and a RAM-size code, and `n` bytes after them. -/
def image (type rom ram : Byte) (n : Nat) : List Byte :=
  List.replicate 0x147 0 ++ [type, rom, ram] ++ List.replicate n 0

theorem image_length (type rom ram : Byte) (n : Nat) : (image type rom ram n).length = 0x14A + n := by
  simp only [image, List.length_append, List.length_replicate, List.length_cons, List.length_nil]

theorem image_header (type rom ram : Byte) (n : Nat) :
    (image type rom ram n).getD 0x147 0 = type ∧ (image type rom ram n).getD 0x148 0 = rom ∧
      (image type rom ram n).getD 0x149 0 = ram := by
  simp [image, List.getD_eq_getElem?_getD, List.getElem?_append, -List.reduceReplicate]

/-- A short image, size codes outside the tables, an unsupported type, a truncated image, and images of the three
families with exactly their banks; a cartridge with no controller. -/
theorem witness_CartridgeLoad :
    (image 0 0 0 5).length < 0x150 ∧ 0x150 ≤ (image 0 8 6 6).length ∧ (image 0 8 6 6).getD 0x148 0 = 8 ∧
      (image 0 8 6 6).getD 0x149 0 = 6 ∧
      (∀ c : Byte × Byte, c ∈ [(0x05, 0), (0x09, 5), (0x03, 3), (0x10, 2)] → c.2.toNat < 6 ∧
        (image c.1 0 c.2 6).length < 2 * 0x4000 ∧ 2 * 0x4000 ≤ (image c.1 0 c.2 0x7EB6).length ∧
        (image c.1 0 c.2 0x7EB6).getD 0x147 0 = c.1 ∧ (image c.1 0 c.2 0x7EB6).getD 0x148 0 = 0 ∧
        (image c.1 0 c.2 0x7EB6).getD 0x149 0 = c.2) ∧
      (∃ save bytes : List Byte, some save = some bytes ∧ 0 < bytes.length) ∧ base.cart.ctrl = .romOnly := by
  simp only [image_length, image_header]
  refine ⟨by omega, by omega, trivial, trivial, fun c hc => ⟨?_, by omega, by omega, trivial, trivial, trivial⟩,
    ⟨[7], [7], rfl, by decide⟩, rfl⟩
  simp only [List.mem_cons, List.not_mem_nil, or_false] at hc
  rcases hc with rfl | rfl | rfl | rfl <;> decide

/-- An address lies in a range. -/
def within (lo hi : Nat) (w : Word) : Bool := decide (lo ≤ w.toNat ∧ w.toNat < hi)

/-- The boundary addresses of the registers and windows of a cartridge. -/
theorem witness_cartridge_ranges :
    [0x0000, 0x1FFF].all (within 0x0000 0x2000) = true ∧ [0x2000, 0x3FFF].all (within 0x2000 0x4000) = true ∧
      [0x4000, 0x5FFF].all (within 0x4000 0x6000) = true ∧ [0x6000, 0x7FFF].all (within 0x6000 0x8000) = true ∧
      [0x0100, 0x3FFF].all (within 0x0100 0x4000) = true ∧ [0x4000, 0x7FFF].all (within 0x4000 0x8000) = true ∧
      [0xA000, 0xBFFF].all (within 0xA000 0xC000) = true := by decide +kernel

theorem witness_Mbc1BankSelect :
    ∃ (s : State) (m : Mbc1), s.cart.ctrl = .mbc1 m ∧ [0x2000, 0x3FFF].all (within 0x2000 0x4000) = true :=
  ⟨{ base with cart := mbc1Cart { ramEnable := true, bankLo := 31, bankHi := 3, mode := true } }, _, rfl,
    by decide +kernel⟩

theorem witness_Mbc1Banking : ∃ (s : State) (m : Mbc1), s.cart.ctrl = .mbc1 m ∧ s.bootEnabled = false :=
  ⟨{ base with cart := mbc1Cart { ramEnable := true, bankLo := 31, bankHi := 3, mode := true } }, _, rfl, rfl⟩

/-- Legal and illegal selectors at their boundaries. -/
theorem witness_Mbc3_selectors :
    [0, 3, 8, 12].all (fun v : Byte => decide (v.toNat ≤ 3 ∨ (8 ≤ v.toNat ∧ v.toNat ≤ 12))) = true ∧
      [4, 7, 13, 255].all (fun v : Byte => decide (¬(v.toNat ≤ 3 ∨ (8 ≤ v.toNat ∧ v.toNat ≤ 12)))) = true := by
  decide +kernel

/-- RAM disabled; banks 0 and 3 without and with RAM; clock registers 8 and 12 without and with a timer. -/
theorem witness_Mbc3Banking :
    let meets := fun (m : Mbc3) (ram : Nat) (timer : Bool) => ∃ s : State,
      s.cart.ctrl = .mbc3 m ∧ s.cart.cap.ramSize = ram ∧ s.cart.cap.hasTimer = timer ∧ s.bootEnabled = false
    (mbc3Regs 0).ramEnable = true ∧ (mbc3Regs 12).ramRtcSelect.toNat = 12 ∧
      ∀ (ram : Nat) (timer : Bool), meets { mbc3Regs 0 with ramEnable := false } ram timer ∧
        meets (mbc3Regs 0) ram timer ∧ meets (mbc3Regs 3) ram timer ∧ meets (mbc3Regs 8) ram timer ∧
        meets (mbc3Regs 12) ram timer := by
  have built : ∀ (m : Mbc3) (ram : Nat) (timer : Bool), ∃ s : State,
      s.cart.ctrl = .mbc3 m ∧ s.cart.cap.ramSize = ram ∧ s.cart.cap.hasTimer = timer ∧ s.bootEnabled = false :=
    fun m ram timer =>
      ⟨{ base with
          cart := { mbc3Cart m with cap := { (mbc3Cart m).cap with ramSize := ram, hasTimer := timer } } },
        rfl, rfl, rfl, rfl⟩
  exact ⟨rfl, rfl, fun ram timer => ⟨built .., built .., built .., built .., built ..⟩⟩

/-- A latch that completes its sequence and one that does not; a stopped clock with the stopped bit stored as set and as
clear, and a running one with it set. -/
theorem witness_Mbc3Clock :
    (∃ (s : State) (m : Mbc3), s.cart.ctrl = .mbc3 m ∧ s.cart.cap.hasTimer = true ∧ m.latchLast = some 0) ∧
    (∃ (s : State) (m : Mbc3), s.cart.ctrl = .mbc3 m ∧ m.latchLast = none) ∧
    (∃ (s : State) (m : Mbc3), s.cart.ctrl = .mbc3 m ∧ m.ramEnable = true ∧ s.cart.cap.hasTimer = true ∧
      m.ramRtcSelect.toNat = 8) ∧
    (∃ (s : State) (m : Mbc3), s.cart.ctrl = .mbc3 m ∧ m.ramEnable = true ∧ s.cart.cap.hasTimer = true ∧
      m.ramRtcSelect.toNat = 12 ∧ m.rtcStopped = true) ∧
    (∃ (s : State) (m : Mbc3), s.cart.ctrl = .mbc3 m ∧ m.ramEnable = true ∧ s.cart.cap.hasTimer = true ∧
      m.ramRtcSelect.toNat = 12 ∧ m.rtcStopped = false) ∧
    (0x40 : Byte).getLsbD 6 = true ∧ (0xBF : Byte).getLsbD 6 = false :=
  ⟨⟨{ base with cart := mbc3Cart (mbc3Regs 8) }, _, rfl, rfl, rfl⟩,
    ⟨{ base with cart := mbc3Cart { mbc3Regs 8 with latchLast := none } }, _, rfl, rfl⟩,
    ⟨{ base with cart := mbc3Cart (mbc3Regs 8) }, _, rfl, rfl, rfl, rfl⟩,
    ⟨{ base with cart := mbc3Cart (mbc3Regs 12) }, _, rfl, rfl, rfl, rfl, rfl⟩,
    ⟨{ base with cart := mbc3Cart { mbc3Regs 12 with rtcStopped := false } }, _, rfl, rfl, rfl, rfl, rfl⟩,
    by decide, by decide⟩

/-- No input, an input of two events, and one of none. -/
theorem witness_JoypadRegister :
    (∃ s : State, s.hostInputs = []) ∧
    (∃ (s : State) (a b : Buttons) (later : List (List Buttons)), s.hostInputs = [a, b] :: later) ∧
    ∃ (s : State) (later : List (List Buttons)), s.hostInputs = [] :: later :=
  ⟨⟨base, rfl⟩,
    ⟨{ base with hostInputs := [[{ direction := 1, action := 0 }, { direction := 0, action := 0 }]] }, _, _, _, rfl⟩,
    ⟨{ base with hostInputs := [[]] }, _, rfl⟩⟩

/-- Work RAM and its mirror. -/
theorem witness_StoredByteReadsBack :
    ∃ (s : State) (addr b : Word), MemoryInv s ∧ isStorable s addr = true ∧ isUngated s b = true ∧
      cellOf s b = cellOf s addr ∧ addr ≠ b :=
  ⟨base, 0xDDFF, 0xFDFF, witness_MemoryInv, by decide +kernel⟩

/-- The next byte of work RAM, and an address with no memory behind it. -/
theorem witness_StoreLeavesOtherAddresses :
    ∃ (s : State) (addr b d : Word), isPlainTarget s addr = true ∧ addr ≠ b ∧ cellOf s b ≠ cellOf s addr ∧ addr ≠ d ∧
      cellOf s d = none := ⟨base, 0xC100, 0xC101, 0xFF40, by decide +kernel⟩

/-- Both gates closed, the overlay there and gone, and the boundary addresses. -/
theorem witness_GatesOverlayAndHoles :
    (∃ s : State, s.ppu.vramAccess = false ∧ s.ppu.oamAccess = false ∧ s.bootEnabled = true) ∧
      (∃ s : State, s.bootEnabled = false) ∧
      [0x8000, 0x9FFF].all (fun w : Word => decide (0x8000 ≤ w.toNat ∧ w.toNat < 0xA000)) = true ∧
      [0xFE00, 0xFE9F].all (fun w : Word => decide (0xFE00 ≤ w.toNat ∧ w.toNat < 0xFEA0)) = true ∧
      [0xFEA0, 0xFEFF].all (fun w : Word => decide (0xFEA0 ≤ w.toNat ∧ w.toNat < 0xFF00)) = true ∧
      [0xFF51, 0xFF7F].all (fun w : Word => decide (0xFF51 ≤ w.toNat ∧ w.toNat ≤ 0xFF7F)) = true ∧
      [0x0000, 0x00FF].all (fun w : Word => decide (w.toNat < 0x100)) = true :=
  ⟨⟨{ State.reset with ppu := { base.ppu with vramAccess := false, oamAccess := false } }, by decide +kernel⟩,
    ⟨base, rfl⟩, by decide +kernel, by decide +kernel, by decide +kernel, by decide +kernel, by decide +kernel⟩

/-- The base state meets every invariant and has a next state: for the statements `StepKeeps…`. -/
theorem witness_StepKeeps :
    ClockInv base ∧ MemoryInv base ∧ PpuInv base ∧ ApuInv base ∧ ControllerInv base ∧ DelayInv base ∧
      ∃ t, step base = .next t := by
  obtain ⟨t, ht, _⟩ := step_of_seen (s := base) (f := fun t => t.cpuClock) (v := 4) (by decide +kernel)
  refine ⟨by unfold ClockInv; decide +kernel, witness_MemoryInv, ?_, by unfold ApuInv; decide +kernel, trivial, ?_, t, ht⟩
  · unfold PpuInv PpuOff PpuStarting PpuOnSchedule
    decide +kernel
  · rintro (h | h) <;> cases h

/-- A PPU on its schedule, an MBC1 and a pending EI meet the invariants too. -/
theorem witness_StepKeeps_on :
    PpuInv
        { base with
          cpuClock := 700
          ppu :=
            { base.ppu with
              lcdc := 0x80, displayEnableTime := 244, line := 1, mode := .oamScan, oamAccess := false } } ∧
      ControllerInv { base with cart := mbc1Cart { ramEnable := true, bankLo := 1, bankHi := 0, mode := false } } ∧
      ControllerInv { base with cart := mbc3Cart (mbc3Regs 12) } ∧ DelayInv { base with imePending := true } := by
  refine ⟨?_, by unfold ControllerInv mbc1Cart; decide +kernel, by unfold ControllerInv mbc3Cart; decide +kernel,
    fun _ => .inl rfl⟩
  unfold PpuInv PpuOff PpuStarting PpuOnSchedule
  decide +kernel

/-- The last byte of a boot image, a load that is refused and one that succeeds. -/
theorem witness_ResetAndLaunch :
    255 < 256 ∧ (∃ e, loadCartridge [] none none { now := 0, samples := 0 } = .error e) ∧
      ∃ l, loadCartridge (image 0x0F 0 0 0x7EB6) none (some 7) { now := 0, samples := 0 } = .ok l := by
  refine ⟨by decide, ⟨_, rfl⟩, ?_⟩
  have hl := image_length 0x0F 0 0 0x7EB6
  have hh := image_header 0x0F 0 0 0x7EB6
  generalize image 0x0F 0 0 0x7EB6 = l at hl hh
  have whole : ¬l.length < 2 * 0x4000 := by omega
  rw [Laws.loadCartridge_eq none (some 7) _ (banks := 2) (ramSize := 0) (by omega) (by rw [hh.2.1]; rfl)
    (by rw [hh.2.2]; rfl), hh.1]
  exact ⟨_, (if_neg (by decide)).trans (if_neg whole)⟩

end Sys2Proof.Tests
end

section
/-! Proofs of the statements of 00_scope.md: the build that no step changes, the stack, the control transfers, a call
with its return, the halted machine, and the launches. -/

namespace Sys2Proof.Proofs

open Sys2Proof Machine Laws

/-! ## Proofs: no step changes the build -/

/-! ### Frames -/

theorem sameBuild_refl (s : State) : SameBuild s s := ⟨rfl, rfl, rfl, rfl⟩

theorem sameBuild_trans {s t u : State} (h : SameBuild s t) (g : SameBuild t u) : SameBuild s u := by
  obtain ⟨hparams, hboot, hrom, hcap⟩ := h
  obtain ⟨gparams, gboot, grom, gcap⟩ := g
  exact ⟨gparams.trans hparams, gboot.trans hboot, grom.trans hrom, gcap.trans hcap⟩

/-- The devices that the clock advance runs hold nothing that is fixed when the machine is built. -/
theorem sameBuild_of_onlyDevices {s t : State} (h : OnlyDevices s t) : SameBuild s t := by
  rw [h]
  exact sameBuild_refl s

/-- Settles O58: of the parts of a step only a store and a machine cycle touch the build, and both keep it. -/
theorem stepKeepsBuild : Obligations.StepKeepsBuild := by
  unfold Obligations.StepKeepsBuild
  intro s t hst
  refine step_invariant (P := SameBuild s) ?reg ?store ?ctl ?iflag ?inputs ?buttons ?dma ?cycle (sameBuild_refl s) hst
  case store => exact fun a v u h => sameBuild_trans h (busWrite_cpu a v u).2.2
  case cycle => exact fun u h => sameBuild_trans h (sameBuild_of_onlyDevices (machineCycle_frame u))
  case reg => exact fun _ _ h => h
  case ctl => exact fun _ _ _ _ _ h => h
  case iflag => exact fun _ _ h => h
  case inputs => exact fun _ _ h => h
  case buttons => exact fun _ _ h => h
  case dma => exact fun _ _ _ h => h

/-! ## Proofs: the stack and the control transfers -/

/-! ### Pushes, pops and returns -/

/-- `F` as a number: the flags in bits 7 to 4, bits 3:0 zero (R22). -/
theorem flags_toByte_toNat (f : Flags) :
    f.toByte.toNat = f.z.toNat * 128 + f.n.toNat * 64 + f.h.toNat * 32 + f.c.toNat * 16 := by
  obtain ⟨z, n, h, c⟩ := f
  cases z <;> cases n <;> cases h <;> cases c <;> rfl

/-- PUSH, with its frame (R225). -/
theorem exec_push_result (p : StkPair) (s : State) :
    ∃ t, exec (.push p) s = .next t ∧ PushResult (getStkPair p s) s t :=
  ⟨_, exec_push p s, push16_result _ s⟩

theorem lowByte_pop16Value (s : State) : lowByte (pop16Value s) = busRead s s.regs.sp := lowByte_wordOf _ _

theorem highByte_pop16Value (s : State) : highByte (pop16Value s) = busRead s (s.regs.sp + 1) := highByte_wordOf _ _

/-- Settles O15: a push is `push16_result`, and a pop moves the two bytes of the word it takes. -/
theorem pushAndPop : Obligations.PushAndPop := by
  unfold Obligations.PushAndPop
  intro s
  dsimp only
  rw [← lowByte_pop16Value, ← highByte_pop16Value]
  exact ⟨exec_push_result .bc s, exec_push_result .de s, exec_push_result .hl s, exec_push_result .af s,
    flags_toByte_toNat s.regs.f, exec_pop .bc s, exec_pop .de s, exec_pop .hl s, exec_pop .af s⟩

/-! ### Jumps, calls and returns -/

/-- A transfer that goes on only when its condition holds is its effect or nothing. -/
theorem whenCond_eq (cc : Cond) (f : State → State) (s : State) :
    whenCond cc f s = if condHolds cc s.regs.f then f s else s := rfl

/-- A relative jump, its displacement added exactly and wrapped (R314). -/
theorem jumpRelative_eq (e : Byte) (s : State) :
    jumpRelative e s = { s with regs := { s.regs with pc := BitVec.ofInt 16 (s.regs.pc.toNat + e.toInt) } } := by
  rw [← add_sext16]
  rfl

theorem rstTarget_eq (k : BitNo) : rstTarget k = BitVec.ofNat 16 (8 * k.toNat) := by
  rw [rstTarget, Nat.mul_comm]

/-- RETI enables interrupts after the return (R322), or leaves that pending under `RETI_DELAYED` (log 24). -/
theorem exec_reti (s : State) :
    (s.params.retiDelayed = false →
        exec .reti s = .next { returnFrom s with ime := true, imePending := false }) ∧
      (s.params.retiDelayed = true → exec .reti s = .next { returnFrom s with imePending := true }) := by
  have hreti : exec .reti s = .next (enableAfterReturn (returnFrom s)) := rfl
  have hparams : (returnFrom s).params = s.params := rfl
  rw [hreti, enableAfterReturn, hparams]
  constructor <;> intro h <;> rw [h] <;> rfl

/-- Settles O25: each transfer is its shared operation, and a conditional one is that operation or nothing. -/
theorem controlTransfers : Obligations.ControlTransfers := by
  unfold Obligations.ControlTransfers
  intro cc k e nn s
  refine ⟨⟨rfl, rfl, rfl, rfl⟩, ⟨rfl, rfl, ?jr, ?jpIf, ?jrIf⟩, ⟨_, push16_result s.regs.pc s, rfl, ?callIf, ?rst⟩,
    rfl, ?retIf, ?reti⟩
  case jr => exact congrArg _ (jumpRelative_eq e s)
  case jpIf => rw [exec_jpIf, whenCond_eq]; rfl
  case jrIf => rw [exec_jrIf, whenCond_eq, jumpRelative_eq]
  case callIf => rw [exec_callIf, whenCond_eq]; rfl
  case rst => rw [exec_rst, rstTarget_eq]; rfl
  case retIf => rw [exec_retIf, whenCond_eq]; rfl
  case reti => exact exec_reti s

/-! ## Proofs: a call or restart followed by a return -/

/-! ### Loads and stores of a byte of memory -/

/-- A storable address stands for a cell, reaches no register, and no gate closes it. -/
theorem isStorable_iff (s : State) (a : Word) :
    isStorable s a = true ↔ isPlainTarget s a = true ∧ isUngated s a = true ∧ ∃ c, cellOf s a = some c := by
  simp [isStorable, and_assoc, Option.isSome_iff_exists]

/-- A store that the RAM window reaches is a store to RAM. -/
theorem cartExternalStore_ram {c : Cart} {h : HostClock} {a k : Nat} (v : Byte) (hk : ramWindow c a = some k) :
    cartExternalStore c h a v = ({ c with ram := c.ram.write k v }, h) := by
  rw [cartExternalStore, hk]

theorem regionCell_congr {c d : Cart} (h : SameWindow c d) (r : Region) : regionCell d r = regionCell c r := by
  obtain ⟨hram, hrom, -⟩ := h
  cases r
  case cart a => simp only [regionCell, hram, hrom]
  all_goals rfl

/-- A store that reaches no register keeps the map: which cell an address stands for. -/
theorem cellOf_busWrite {s : State} {a : Word} (v : Byte) (b : Word) (h : isPlainTarget s a = true) :
    cellOf (busWrite a v s) b = cellOf s b := by
  obtain ⟨-, -, -, -, -, -, -, -, -, hboot⟩ := busWrite_devices v h
  rw [cellOf, cellOf, hboot, regionCell_congr (busWrite_window v h)]

/-- A store that reaches no register keeps the addresses that can be stored to and read back. -/
theorem isStorable_busWrite {s : State} {a : Word} (v : Byte) (b : Word) (h : isPlainTarget s a = true) :
    isStorable (busWrite a v s) b = isStorable s b := by
  have hcell := cellOf_busWrite v b h
  obtain ⟨-, -, -, -, hppu, -, -, -, -, hboot⟩ := busWrite_devices v h
  rw [isStorable, isStorable, hcell]
  simp only [isPlainTarget, isUngated, hppu, hboot]

/-- A load from a storable address is the byte of its cell. -/
theorem busRead_cell {s : State} {a : Word} {c : MemoryCell} (h : isStorable s a = true) (hc : cellOf s a = some c) :
    busRead s a = cellRead c s := by
  obtain ⟨hplain, hopen, -⟩ := (isStorable_iff s a).1 h
  unfold isPlainTarget at hplain
  unfold isUngated at hopen
  unfold cellOf at hc
  unfold busRead
  generalize regionOf s.bootEnabled a.toNat = r at *
  cases r
  case boot k => cases hplain
  case cart n =>
    have hn : ¬n < 0x8000 := by simpa using hplain
    simp only [regionCell, if_neg hn, Option.map_eq_some_iff] at hc
    obtain ⟨k, hk, rfl⟩ := hc
    simp only [regionRead, cartRead, if_neg hn, cartExternalRead, hk, cellRead]
  case vram k => cases hc; exact if_pos hopen
  case oam k => cases hc; exact if_pos hopen
  case io r => cases r <;> cases hc; rfl
  all_goals cases hc <;> rfl

/-- A store to a storable address changes the byte of its cell to the one stored. -/
theorem cellRead_busWrite_same {s : State} {a : Word} {c : MemoryCell} (v : Byte) (hinv : MemoryInv s)
    (h : isStorable s a = true) (hc : cellOf s a = some c) : cellRead c (busWrite a v s) = v := by
  obtain ⟨hplain, hopen, -⟩ := (isStorable_iff s a).1 h
  obtain ⟨⟨hvram, -⟩, ⟨hwram0, -⟩, ⟨hwram1, -⟩, ⟨hoam, -⟩, ⟨hhram, -⟩, ⟨hwave, -⟩, ⟨hram, -⟩⟩ := hinv
  unfold isPlainTarget at hplain
  unfold isUngated at hopen
  unfold cellOf at hc
  unfold busWrite
  generalize regionOf s.bootEnabled a.toNat = r at *
  cases r
  case boot k => cases hplain
  case cart n =>
    have hn : ¬n < 0x8000 := by simpa using hplain
    simp only [regionCell, if_neg hn, Option.map_eq_some_iff] at hc
    obtain ⟨k, hk, rfl⟩ := hc
    simp only [regionWrite, storeCart, cartWrite, if_neg hn, cartExternalStore_ram v hk, cellRead]
    exact memory_read_write_same k v hram
  case vram k =>
    cases hc
    rw [regionWrite, if_pos hopen]
    exact memory_read_write_same k v hvram
  case oam k =>
    cases hc
    rw [regionWrite, if_pos hopen]
    exact memory_read_write_same k v hoam
  case wram0 k => cases hc; exact memory_read_write_same k v hwram0
  case wram1 k => cases hc; exact memory_read_write_same k v hwram1
  case hram k => cases hc; exact memory_read_write_same k v hhram
  case io r => cases r <;> cases hc; exact memory_read_write_same _ v hwave
  all_goals cases hc

/-- A load after a store to the same storable address gives the byte stored. -/
theorem busRead_busWrite_same {s : State} {a : Word} (v : Byte) (hinv : MemoryInv s) (h : isStorable s a = true) :
    busRead (busWrite a v s) a = v := by
  obtain ⟨hplain, -, c, hc⟩ := (isStorable_iff s a).1 h
  rw [busRead_cell ((isStorable_busWrite v a hplain).trans h) ((cellOf_busWrite v a hplain).trans hc)]
  exact cellRead_busWrite_same v hinv h hc

/-- A store to a storable address leaves what another one reads alone, if they stand for different cells. -/
theorem busRead_busWrite_other {s : State} {a b : Word} (v : Byte) (ha : isPlainTarget s a = true)
    (hb : isStorable s b = true) (hne : cellOf s a ≠ cellOf s b) : busRead (busWrite a v s) b = busRead s b := by
  obtain ⟨-, -, c, hc⟩ := (isStorable_iff s b).1 hb
  rw [busRead_cell ((isStorable_busWrite v b ha).trans hb) ((cellOf_busWrite v b ha).trans hc), busRead_cell hb hc]
  exact busWrite_cell a v s c (hc ▸ hne)

/-- After stores to two storable addresses that stand for different cells, each reads back what was stored to it. -/
theorem busRead_two_stores {s : State} {a b : Word} (v w : Byte) (hinv : MemoryInv s) (ha : isStorable s a = true)
    (hb : isStorable s b = true) (hne : cellOf s a ≠ cellOf s b) :
    busRead (busWrite b w (busWrite a v s)) a = v ∧ busRead (busWrite b w (busWrite a v s)) b = w := by
  have hplain := ((isStorable_iff s a).1 ha).1
  have ha' : isStorable (busWrite a v s) a = true := (isStorable_busWrite v a hplain).trans ha
  have hb' : isStorable (busWrite a v s) b = true := (isStorable_busWrite v b hplain).trans hb
  have hne' : cellOf (busWrite a v s) b ≠ cellOf (busWrite a v s) a := by
    rw [cellOf_busWrite v a hplain, cellOf_busWrite v b hplain]
    exact hne.symm
  constructor
  · rw [busRead_busWrite_other w ((isStorable_iff _ b).1 hb').1 ha' hne', busRead_busWrite_same v hinv ha]
  · exact busRead_busWrite_same w (busWrite_memoryInv a v hinv) hb'

/-! ### A push and a pop, a call and a return -/

/-- The stack of `s` is memory: the two bytes below `SP` are storable and stand for different cells. -/
def StackIsMemory (s : State) : Prop :=
  MemoryInv s ∧ isStorable s (s.regs.sp - 1) = true ∧ isStorable s (s.regs.sp - 2) = true ∧
    cellOf s (s.regs.sp - 1) ≠ cellOf s (s.regs.sp - 2)

/-- A pop takes back what a push has put on a stack that is memory. -/
theorem pop16Value_push16 {s : State} (v : Word) (h : StackIsMemory s) : pop16Value (push16 v s) = v := by
  obtain ⟨hinv, hhi, hlo, hne⟩ := h
  obtain ⟨rhi, rlo⟩ := busRead_two_stores (highByte v) (lowByte v) hinv hhi hlo hne
  have hnext : s.regs.sp - 2 + 1 = s.regs.sp - 1 := by bv_omega
  rw [pop16Value, busRead16, push16_eq, setSp_sp, hnext, setSp_eq, busRead_setRegs, busRead_setRegs, rhi, rlo,
    wordOf_bytes]

/-- A return takes `pc` from the stack and moves `SP` (R318). -/
theorem returnFrom_eq (s : State) :
    returnFrom s = setRegs s { s.regs with pc := pop16Value s, sp := s.regs.sp + 2 } := rfl

/-- What a pop takes does not depend on `pc`. -/
theorem pop16Value_callTo (a : Word) (s : State) : pop16Value (callTo a s) = pop16Value (push16 s.regs.pc s) := rfl

/-- A call leaves `pc` at its target and `SP` down by 2, and no other register changed. -/
theorem callTo_regs (a : Word) (s : State) :
    (callTo a s).regs = { s.regs with pc := a, sp := s.regs.sp - 2 } := by
  rw [callTo, setPc_eq, setRegs_regs, (push16_cpu s.regs.pc s).1]

theorem keepsControl_setRegs {s t : State} (g : Regs) (h : KeepsControl s t) : KeepsControl s (setRegs t g) := h

/-- A return undoes a call whose stack is memory: the registers are as they were, and the control state too. -/
theorem returnFrom_callTo {s : State} (a : Word) (h : StackIsMemory s) :
    (returnFrom (callTo a s)).regs = s.regs ∧ KeepsControl s (returnFrom (callTo a s)) := by
  have hcontrol : KeepsControl s (callTo a s) := keepsControl_setRegs _ (push16_cpu s.regs.pc s).2.1
  refine ⟨?_, keepsControl_setRegs _ hcontrol⟩
  have hsp : s.regs.sp - 2 + 2 = s.regs.sp := by bv_omega
  rw [returnFrom_eq, setRegs_regs, pop16Value_callTo, pop16Value_push16 _ h, callTo_regs]
  dsimp only
  rw [hsp]

/-- A call or a restart, if it is taken, is a call to some address. -/
theorem exec_takenCall {i : Instr} {s : State}
    (h : (∃ nn, i = .callA16 nn) ∨ (∃ cc nn, condHolds cc s.regs.f = true ∧ i = .callIf cc nn) ∨ ∃ k, i = .rst k) :
    ∃ a, exec i s = .next (callTo a s) := by
  rcases h with ⟨nn, rfl⟩ | ⟨cc, nn, hcc, rfl⟩ | ⟨k, rfl⟩
  · exact ⟨nn, rfl⟩
  · exact ⟨nn, by rw [exec_callIf, whenCond, if_pos hcc]⟩
  · exact ⟨_, exec_rst k s⟩

/-- A return that is no RETI, if it is taken, is `returnFrom`. -/
theorem exec_takenReturn {j : Instr} {m : State} (h : j = .ret ∨ ∃ cc, condHolds cc m.regs.f = true ∧ j = .retIf cc) :
    j ≠ .reti ∧ exec j m = .next (returnFrom m) := by
  rcases h with rfl | ⟨cc, hcc, rfl⟩
  · exact ⟨nofun, rfl⟩
  · refine ⟨by cases cc <;> nofun, ?_⟩
    rw [exec_retIf, whenCond, if_pos hcc]

/-- Settles O26: the return undoes the call (`returnFrom_callTo`), and RETI adds only what it does to `IME`. -/
theorem callThenReturn : Obligations.CallThenReturn := by
  unfold Obligations.CallThenReturn
  intro i j s m t hinv hhi hlo hne hcall hreturn hm ht
  obtain ⟨a, ha⟩ := exec_takenCall hcall
  obtain rfl : callTo a s = m := Host.Outcome.next.inj (ha.symm.trans hm)
  obtain ⟨hregs, hcontrol⟩ := returnFrom_callTo a ⟨hinv, hhi, hlo, hne⟩
  obtain ⟨hime, hpending, hbug, hstate, hclock, hparams, hrest⟩ := hcontrol
  have hflags : (callTo a s).regs.f = s.regs.f := by rw [callTo_regs]
  have hreti := exec_reti (callTo a s)
  rw [show (callTo a s).params = s.params from hparams] at hreti
  rw [← or_assoc, ← hflags] at hreturn
  have hret : (j = .ret ∨ ∃ cc, condHolds cc (callTo a s).regs.f = true ∧ j = .retIf cc) →
      j ≠ .reti ∧ returnFrom (callTo a s) = t := fun h =>
    ⟨(exec_takenReturn h).1, Host.Outcome.next.inj ((exec_takenReturn h).2.symm.trans ht)⟩
  generalize returnFrom (callTo a s) = b at *
  have hkeeps : KeepsControl s { b with ime := s.ime, imePending := s.imePending } :=
    ⟨rfl, rfl, hbug, hstate, hclock, hparams, hrest⟩
  rcases hreturn with h | rfl
  · obtain ⟨hj, rfl⟩ := hret h
    exact ⟨hregs, hkeeps, fun _ => ⟨hime, hpending⟩, fun h => absurd h hj, fun h => absurd h hj⟩
  · obtain ⟨heager, hdelayed⟩ := hreti
    cases hp : s.params.retiDelayed
    · obtain rfl := Host.Outcome.next.inj ((heager hp).symm.trans ht)
      exact ⟨hregs, hkeeps, fun h => absurd rfl h, fun _ _ => ⟨rfl, rfl⟩, nofun⟩
    · obtain rfl := Host.Outcome.next.inj ((hdelayed hp).symm.trans ht)
      exact ⟨hregs, hkeeps, fun h => absurd rfl h, nofun, fun _ _ => ⟨hime, rfl⟩⟩

/-! ## Proofs: halted and stopped machines -/

/-! ### The host's input and the DMA copy -/

/-- The DMA part of a step either faults, whatever the CPU state was, or does not look at the CPU state. -/
theorem runDma_setCpuState (s : State) (c : CpuState) :
    ((∃ r, (runDma s).cpuState = .faulted r) ∧ runDma { s with cpuState := c } = runDma s) ∨
      ((runDma s).cpuState = s.cpuState ∧ runDma { s with cpuState := c } = { runDma s with cpuState := c }) := by
  by_cases hp : s.dmaPending = true
  · by_cases hd : s.dma = 0xFE
    · refine .inl ?_
      simp [runDma, hp, hd, raiseFatal]
    · refine .inr ?_
      simp only [runDma, hp, hd, dmaCopy]
      exact ⟨rfl, rfl⟩
  · refine .inr ?_
    simp [runDma, hp]

/-- Neither the host's input nor the DMA copy changes a register or `IME`. -/
theorem runDma_takeHostInput_keeps (s : State) :
    (runDma (takeHostInput s)).regs = s.regs ∧ (runDma (takeHostInput s)).ime = s.ime := by
  rcases runDma_cases (takeHostInput s) with ⟨-, e⟩ | ⟨-, -, e⟩ | ⟨-, -, e⟩ <;> rw [e, takeHostInput_frame] <;>
    exact ⟨rfl, rfl⟩

/-- A machine that has not faulted takes a step (R370). -/
theorem step_notFaulted {s : State} (h : NotFaulted s) : step s = runStep s := by
  unfold step
  split
  · exact absurd ‹_› (h _)
  · rfl

/-- A step whose DMA copy faults ends with the fault (R112). -/
theorem step_dmaFault {s : State} (hs : NotFaulted s) (h : ∃ r, (runDma (takeHostInput s)).cpuState = .faulted r) :
    step s = .next (runDma (takeHostInput s)) := by
  obtain ⟨r, hr⟩ := h
  rw [step_notFaulted hs, runStep, hr]

/-! ### Waking -/

theorem wake_halted {s : State} (h : s.cpuState = .halted) :
    wake s = if pendingSources s ≠ 0 then { s with cpuState := .running } else s := by
  rw [wake, h]

theorem wake_stopped {s : State} (h : s.cpuState = .stopped) :
    wake s = if stopWakes s then { s with cpuState := .running } else s := by
  rw [wake, h]

/-- A machine that the wake-up check sets running steps as the running one. -/
theorem step_eq_step_running {s : State} (hs : NotFaulted s)
    (hw : (runDma (takeHostInput s)).cpuState = s.cpuState →
      wake (runDma (takeHostInput s)) = { runDma (takeHostInput s) with cpuState := .running }) :
    step s = step { s with cpuState := .running } := by
  have hrun : NotFaulted { s with cpuState := .running } := nofun
  have hinput := takeHostInput_setCpuState s .running
  rcases runDma_setCpuState (takeHostInput s) .running with ⟨hr, hdma⟩ | ⟨hr, hdma⟩ <;> rw [← hinput] at hdma
  · rw [step_dmaFault hs hr, step_dmaFault hrun (hdma ▸ hr), hdma]
  · rw [takeHostInput_cpuState] at hr
    rw [step_ready fun r h => hs r (hr ▸ h), step_ready (by rw [hdma]; exact nofun)]
    rw [ready, ready, hw hr, hdma, wake_running rfl]

/-- A machine that does not run only lets a machine cycle pass (R352). -/
theorem runCpu_idle {s : State} (h : s.cpuState ≠ .running) : runCpu s = .next (advanceClock idleCost s) := by
  unfold runCpu
  split
  · contradiction
  · rfl

/-! ### The joypad lines and the clock advance -/

/-- The low four bits of `JOYP` are the lines (R102). -/
theorem busRead_joyp_line (s : State) {i : Nat} (h : i < 4) :
    (busRead s 0xFF00).getLsbD i = (joypLines s.joypSelect s.buttons).getLsbD i := by
  have hread : busRead s 0xFF00 = readJoyp s := busRead_io s (by decide) (by decide)
  rw [hread, readJoyp]
  interval_cases i <;> simp

theorem joypLines_ne_all_iff : ∀ l : BitVec 4, l ≠ 0xF ↔ ∃ i < 4, l.getLsbD i = false := by decide

/-- `STOP_WAKE` on the joypad: a line of `JOYP` is low (R334). -/
theorem stopWakes_joypadLine_iff {s : State} (h : s.params.stopWake = .joypadLine) :
    stopWakes s = true ↔ ∃ i < 4, (busRead s 0xFF00).getLsbD i = false := by
  rw [stopWakes_joypadLine h, decide_eq_true_iff, joypLines_ne_all_iff]
  exact exists_congr fun i => and_congr_right fun hi => by rw [busRead_joyp_line s hi]

/-- The clock advance touches no byte of memory. -/
theorem keepsMemory_of_onlyDevices {s t : State} (h : OnlyDevices s t) : KeepsMemory s t := by
  rw [h]
  exact fun c => by cases c <;> rfl

/-- The clock advance leaves the registers, the CPU state and `IME` alone. -/
theorem onlyDevices_cpu {s t : State} (h : OnlyDevices s t) :
    t.regs = s.regs ∧ t.cpuState = s.cpuState ∧ t.ime = s.ime := by
  rw [h]
  exact ⟨rfl, rfl, rfl⟩

/-- The step of a machine that the wake-up check leaves asleep: a machine cycle, with its frame (R352). -/
theorem step_asleep {s : State}
    (hc : (runDma (takeHostInput s)).cpuState = .halted ∨ (runDma (takeHostInput s)).cpuState = .stopped)
    (hw : wake (runDma (takeHostInput s)) = runDma (takeHostInput s)) :
    ∃ t, step s = .next t ∧ t = advanceClock 1 (runDma (takeHostInput s)) ∧ t.cpuClock = s.cpuClock + 4 ∧
      t.regs = s.regs ∧ t.cpuState = s.cpuState ∧ t.ime = s.ime ∧ KeepsMemory (runDma (takeHostInput s)) t := by
  obtain ⟨hregs, hime⟩ := runDma_takeHostInput_keeps s
  have hclock : (runDma (takeHostInput s)).cpuClock = s.cpuClock := hw ▸ ready_cpuClock s
  have hasleep : NotFaulted (runDma (takeHostInput s)) ∧ (runDma (takeHostInput s)).cpuState ≠ .running := by
    rcases hc with hc | hc <;> simp [NotFaulted, hc]
  have hstate : (runDma (takeHostInput s)).cpuState = s.cpuState := by
    rcases runDma_setCpuState (takeHostInput s) .running with ⟨⟨r, hr⟩, -⟩ | ⟨hr, -⟩
    · exact absurd hr (hasleep.1 r)
    · rw [hr, takeHostInput_cpuState]
  have hstep : step s = .next (advanceClock 1 (runDma (takeHostInput s))) := by
    rw [step_ready hasleep.1, ready, hw, runCpu_idle hasleep.2, idleCost]
  have hframe := advanceClock_frame 1 (runDma (takeHostInput s))
  obtain ⟨fregs, fstate, fime⟩ := onlyDevices_cpu hframe
  exact ⟨_, hstep, rfl, by rw [advanceClock_cpuClock, hclock], fregs.trans hregs, fstate.trans hstate,
    fime.trans hime, keepsMemory_of_onlyDevices hframe⟩

/-- Settles O9: the wake-up check decides, and what follows it is a running machine's step or an idle cycle. -/
theorem haltedStep : Obligations.HaltedStep := by
  unfold Obligations.HaltedStep
  intro s
  dsimp only
  rw [← pendingSources_ne_zero_iff]
  refine ⟨?quiet, ?halted, ?stopped, stopWakes_never, stopWakes_joypadLine_iff, ?idle, fun n v => ⟨rfl, rfl⟩⟩
  case quiet => exact fun hinputs hdma => by rw [takeHostInput_nil hinputs, runDma_none hdma]
  case halted =>
    intro hs hreq
    refine step_eq_step_running (fun r h => by rw [hs] at h; cases h) fun hu => ?_
    rw [wake_halted (hu.trans hs), if_pos hreq]
  case stopped =>
    intro hs hwakes
    refine step_eq_step_running (fun r h => by rw [hs] at h; cases h) fun hu => ?_
    rw [wake_stopped (hu.trans hs), if_pos hwakes]
  case idle =>
    rintro (⟨hu, hreq⟩ | ⟨hu, hwakes⟩)
    · exact step_asleep (.inl hu) (by rw [wake_halted hu, if_neg hreq])
    · exact step_asleep (.inr hu) (by rw [wake_stopped hu, hwakes]; rfl)

/-! ## Proofs: reset and the launches -/

/-- The PPU of a `post_boot` launch is at its place on the schedule, with its gates, and no lcd-stat condition. -/
theorem postBootPpu_onSchedule (params : Params) (clock : Nat) (u : Ppu) :
    PpuOnSchedule params.mode3Len (clock - min u.displayEnableTime clock) (postBootPpu params clock u) := by
  have hquiet : statCondition (postBootPpu params clock u) = false := by simp [statCondition, postBootPpu]
  exact ⟨rfl, rfl, rfl, hquiet.symm⟩

/-- A `post_boot` launch leaves the PPU on its schedule (R436, R563). -/
theorem postBoot_ppuInv (l : Loaded) (params : Params) (u : State) : PpuInv (postBoot l params u) := by
  have hon : displayOn (postBoot l params u).ppu = true := show (0x91 : Byte).getLsbD 7 = true by decide
  have hstarted : ¬(postBoot l params u).cpuClock < (postBoot l params u).ppu.displayEnableTime :=
    Nat.not_lt.2 (Nat.min_le_right _ _)
  rw [PpuInv, hon, if_neg (by decide), if_neg hstarted]
  exact postBootPpu_onSchedule params _ u.ppu

/-- A `post_boot` launch starts its clock and its divider on a machine cycle (R35, R36). -/
theorem postBoot_clockInv (l : Loaded) (params : Params) (u : State) : ClockInv (postBoot l params u) :=
  ⟨Nat.mul_mod_left _ 4, show (0xABCC : Word).toNat % 4 = 0 by decide, rfl⟩

/-- `IF` reads 0xE1 after a `post_boot` launch: the vblank request waits (R49). -/
theorem postBoot_readIf (l : Loaded) (params : Params) (u : State) : busRead (postBoot l params u) 0xFF0F = 0xE1 := by
  rw [busRead_io (postBoot l params u) (by decide) (by decide)]
  show (0xE0 : Byte) ||| (1 : BitVec 5).setWidth 8 = 0xE1
  decide

/-- Settles O60: the columns of R49 hold by computation; the boot image, the PPU and the clock are the lemmas above. -/
theorem resetAndLaunch : Obligations.ResetAndLaunch := by
  unfold Obligations.ResetAndLaunch
  dsimp only
  repeat refine ⟨rfl, ?_⟩
  refine ⟨fun boot l params => ⟨rfl, fun k _ hk => powerOn_bootRom boot l params hk⟩,
    fun l params u => ?postBoot, fun params image save rtcSave h => ?launch⟩
  case postBoot =>
    refine ⟨rfl, rfl, rfl, rfl, rfl, rfl, rfl, rfl, postBoot_readIf l params u, (postBoot_clockInv l params u).1, ?_⟩
    repeat refine ⟨rfl, ?_⟩
    exact ⟨postBoot_clockInv l params u, postBoot_ppuInv l params u⟩
  case launch =>
    exact ⟨fun e he kind => launch_error kind params he, fun l hl =>
      ⟨fun boot => launch_ok (.powerOn boot) params hl, fun u => launch_ok (.postBoot u) params hl⟩⟩

end Sys2Proof.Proofs
end

section
/-! Proofs of the statements of 10_state.md: the invariants of the clock, of the memories and of the delays of EI and
of the halt quirk, the instruction of a step, the loads, the flags, the plain registers, and the reset state. -/

namespace Sys2Proof.Proofs

open Sys2Proof Machine Laws

/-! ## Proofs: the clock, the memories and the delays that every step keeps -/

/-! ### Invariants that say nothing about the CPU -/

/-- An invariant that the CPU, `IF` and the host's side do not enter: it is enough that a store, the DMA copy and a
machine cycle keep it. -/
theorem step_invariant_of_frame {P : State → Prop}
    (hframe : ∀ (s : State) g ime p b c f l k, P s →
      P { s with
        regs := g, ime := ime, imePending := p, haltBug := b, cpuState := c, iflag := f, hostInputs := l
        buttons := k })
    (hstore : ∀ a v s, P s → P (busWrite a v s))
    (hdma : ∀ (s : State) vs, vs.length = 160 → P s → P { s with oam := Memory.ofBytes 0 vs, dmaPending := false })
    (hcycle : ∀ s, P s → P (machineCycle s)) {s t : State} (h : P s) (hst : step s = .next t) : P t :=
  step_invariant (P := P) (fun s g => hframe s g s.ime s.imePending s.haltBug s.cpuState s.iflag s.hostInputs s.buttons)
    hstore (fun s ime p b c => hframe s s.regs ime p b c s.iflag s.hostInputs s.buttons)
    (fun s f => hframe s s.regs s.ime s.imePending s.haltBug s.cpuState f s.hostInputs s.buttons)
    (fun s l => hframe s s.regs s.ime s.imePending s.haltBug s.cpuState s.iflag l s.buttons)
    (fun s k => hframe s s.regs s.ime s.imePending s.haltBug s.cpuState s.iflag s.hostInputs k) hdma hcycle h hst

/-! ### The clock and the divider -/

/-- A store moves the divider to 0 or leaves it, and brings the edge detector up to date when it does (R404). -/
theorem busWrite_clockInv (a : Word) (v : Byte) {s : State} (h : ClockInv s) : ClockInv (busWrite a v s) := by
  unfold busWrite
  generalize regionOf s.bootEnabled a.toNat = r
  cases r
  case io r =>
    cases r
    case div => exact ⟨h.1, rfl, rfl⟩
    all_goals exact h
  case vram k => simp only [regionWrite]; split <;> exact h
  case oam k => simp only [regionWrite]; split <;> exact h
  all_goals exact h

/-- A machine cycle moves the clock and the divider by 4 and brings the edge detector up to date (R402, R403). -/
theorem machineCycle_clockInv {s : State} (h : ClockInv s) : ClockInv (machineCycle s) := by
  obtain ⟨hclock, hdiv, -⟩ := h
  unfold ClockInv
  rw [machineCycle_cpuClock, machineCycle_timer, timerTick_div, timerTick_divLast]
  have hdiv' : (s.timer.div + 4).toNat % 4 = 0 := by bv_omega
  exact ⟨by omega, hdiv', rfl⟩

/-- Settles O52: of the parts of a step only a store to `DIV` and a machine cycle touch the clock and the divider. -/
theorem stepKeepsClockInv : Obligations.StepKeepsClockInv := by
  unfold Obligations.StepKeepsClockInv
  intro s t h hst
  refine step_invariant_of_frame (P := ClockInv) ?frame ?store ?dma ?cycle h hst
  case frame => exact fun _ _ _ _ _ _ _ _ _ h => h
  case store => exact fun a v _ h => busWrite_clockInv a v h
  case dma => exact fun _ _ _ h => h
  case cycle => exact fun _ h => machineCycle_clockInv h

/-! ### The memories -/

/-- The clock advance stores to no memory. -/
theorem memoryInv_of_onlyDevices {s t : State} (h : OnlyDevices s t) (hs : MemoryInv s) : MemoryInv t := by
  rw [h]
  exact hs

/-- A memory filled with as many bytes as it holds is canonical and of its size. -/
theorem isArray_ofBytes {n : Nat} {vs : List Byte} (h : vs.length = n) : IsArray n (Memory.ofBytes 0 vs) :=
  ⟨memory_wf_ofBytes 0 vs, memory_within_ofBytes 0 vs (by omega)⟩

/-- Settles O53: a store, and the DMA copy with its 160 bytes, keep the memories; nothing else touches
one. -/
theorem stepKeepsMemoryInv : Obligations.StepKeepsMemoryInv := by
  unfold Obligations.StepKeepsMemoryInv
  intro s t h hst
  refine step_invariant_of_frame (P := MemoryInv) ?frame ?store ?dma ?cycle h hst
  case frame => exact fun _ _ _ _ _ _ _ _ _ h => h
  case store => exact fun a v _ h => busWrite_memoryInv a v h
  case dma =>
    intro u vs hvs h
    obtain ⟨hvram, hwram0, hwram1, -, hrest⟩ := h
    exact ⟨hvram, hwram0, hwram1, isArray_ofBytes hvs, hrest⟩
  case cycle => exact fun u h => memoryInv_of_onlyDevices (machineCycle_frame u) h

/-! ### What an instruction does to the CPU control state -/

/-- The effects of an instruction on `IME`, `ime_pending`, `halt_bug` and `cpu_state` (R27 to R30): only the CPU control
instructions, RETI and the illegal opcodes touch them. -/
inductive ControlEffect (s : State) : Instr → State → Prop where
  | data {i : Instr} {t : State} (h : KeepsControl s t) : ControlEffect s i t
  | stop (pad : Byte) : ControlEffect s (.stop pad) { s with cpuState := .stopped }
  | halt : ControlEffect s .halt (haltCpu s)
  | di : ControlEffect s .di { s with ime := false, imePending := false }
  | ei : ControlEffect s .ei { s with imePending := true }
  | reti : ControlEffect s .reti (returnFromInterrupt s)
  | illegal (op : Byte) : ControlEffect s (.illegal op) (raiseFatal (.illegalOpcode op (s.regs.pc - 1)) s)

/-- The instructions that change the CPU control state, by name. -/
theorem isControl_cases {i : Instr} (h : isControl i = true) :
    (∃ pad, i = .stop pad) ∨ i = .halt ∨ i = .di ∨ i = .ei ∨ i = .reti ∨ ∃ op, i = .illegal op := by
  unfold isControl at h
  split at h <;> simp at h ⊢

theorem exec_controlEffect {i : Instr} {s t : State} (h : exec i s = .next t) : ControlEffect s i t := by
  cases hc : isControl i
  case false =>
    obtain ⟨u, hu, hform⟩ := exec_dataForm hc s
    obtain rfl := Host.Outcome.next.inj (hu.symm.trans h)
    exact .data (dataForm_keeps hform).1
  case true =>
    rcases isControl_cases hc with ⟨pad, rfl⟩ | rfl | rfl | rfl | rfl | ⟨op, rfl⟩ <;>
      obtain rfl := Host.Outcome.next.inj h
    · exact .stop pad
    · exact .halt
    · exact .di
    · exact .ei
    · exact .reti
    · exact .illegal op

/-- Everything HALT does: the halt quirk, or sleep (R332). -/
theorem haltCpu_cases (s : State) :
    haltCpu s = { s with haltBug := true } ∨ haltCpu s = { s with cpuState := .halted } := by
  unfold haltCpu
  split
  · exact .inl rfl
  · exact .inr rfl

/-- RETI leaves interrupts enabled, or that pending, and the CPU running (R322). -/
theorem returnFromInterrupt_control (s : State) :
    ((returnFromInterrupt s).imePending = true ∨
        (returnFromInterrupt s).ime = true ∧ (returnFromInterrupt s).imePending = false) ∧
      (returnFromInterrupt s).cpuState = s.cpuState := by
  unfold returnFromInterrupt enableAfterReturn
  split
  · exact ⟨.inl rfl, rfl⟩
  · exact ⟨.inr ⟨rfl, rfl⟩, rfl⟩

/-! ### The end of an instruction -/

theorem endInstruction_faulted {t : State} {r : FatalReason} (h : t.cpuState = .faulted r) (w : Bool) (cost : Nat) :
    endInstruction w cost t = t := by
  rw [endInstruction, h]

theorem endInstruction_notFaulted {t : State} (h : NotFaulted t) (w : Bool) (cost : Nat) :
    endInstruction w cost t = advanceClock cost (endEiDelay w t) := by
  unfold endInstruction
  split
  · exact absurd ‹_› (h _)
  · rfl

/-- The end of an instruction and the clock advance leave `cpu_state` and `halt_bug` alone. -/
theorem endInstruction_cpu (w : Bool) (cost : Nat) (t : State) :
    (endInstruction w cost t).cpuState = t.cpuState ∧ (endInstruction w cost t).haltBug = t.haltBug := by
  have hdelay : (endEiDelay w t).cpuState = t.cpuState ∧ (endEiDelay w t).haltBug = t.haltBug := by
    unfold endEiDelay
    split <;> exact ⟨rfl, rfl⟩
  unfold endInstruction
  split
  · exact ⟨rfl, rfl⟩
  · rw [advanceClock_frame cost (endEiDelay w t)]
    exact hdelay

/-- `IME` and `ime_pending` after an instruction that does not fault: those that the EI delay leaves (R28). -/
theorem endInstruction_ime {t : State} (h : NotFaulted t) (w : Bool) (cost : Nat) :
    (endInstruction w cost t).ime = (endEiDelay w t).ime ∧
      (endInstruction w cost t).imePending = (endEiDelay w t).imePending := by
  rw [endInstruction_notFaulted h, advanceClock_frame cost (endEiDelay w t)]
  exact ⟨rfl, rfl⟩

/-- An EI that was pending before an instruction as it is now is not pending after the end of the instruction. -/
theorem endEiDelay_imePending_self (t : State) : (endEiDelay t.imePending t).imePending = false := by
  cases h : t.imePending <;> simp [endEiDelay, h]

/-! ### A pending EI and the halt quirk -/

theorem delayInv_of_running {s : State} (h : s.cpuState = .running) : DelayInv s := fun _ => .inl h

theorem delayInv_of_faulted {s : State} {r : FatalReason} (h : s.cpuState = .faulted r) : DelayInv s :=
  fun _ => .inr fun hn => hn r h

theorem delayInv_of_nothing_pending {s : State} (hpending : s.imePending = false) (hbug : s.haltBug = false) :
    DelayInv s := by
  rintro (h | h)
  · exact absurd (hpending.symm.trans h) Bool.false_ne_true
  · exact absurd (hbug.symm.trans h) Bool.false_ne_true

theorem advanceClock_delayInv (n : Nat) {s : State} (h : DelayInv s) : DelayInv (advanceClock n s) := by
  rw [advanceClock_frame n s]
  exact h

theorem runDma_delayInv {s : State} (h : DelayInv s) : DelayInv (runDma s) := by
  rcases runDma_cases s with ⟨-, e⟩ | ⟨-, -, e⟩ | ⟨-, -, e⟩ <;> rw [e]
  · exact h
  · exact delayInv_of_faulted rfl
  · exact h

/-- Everything the wake-up check does: it sets the CPU running, or nothing. -/
theorem wake_cases (s : State) : wake s = { s with cpuState := .running } ∨ wake s = s := by
  unfold wake
  split
  · split <;> simp
  · split <;> simp
  · exact .inr rfl

theorem wake_delayInv {s : State} (h : DelayInv s) : DelayInv (wake s) := by
  rcases wake_cases s with e | e <;> rw [e]
  · exact delayInv_of_running rfl
  · exact h

theorem takeHostInput_delayInv {s : State} (h : DelayInv s) : DelayInv (takeHostInput s) :=
  takeHostInput_induct (P := DelayInv) (fun _ _ h => h) (fun _ _ h => h) h

/-- An instruction of a running machine leaves no pending EI and no halt quirk in a machine that it puts to sleep: the
fetch has used the quirk up, and neither HALT nor STOP is an EI whose delay is not over (R28, R30, R332, R334). -/
theorem endInstruction_delayInv {i : Instr} {s t : State} (hrun : s.cpuState = .running) (hbug : s.haltBug = false)
    (h : exec i s = .next t) (cost : Nat) : DelayInv (endInstruction s.imePending cost t) := by
  obtain ⟨hstate, hquirk⟩ := endInstruction_cpu s.imePending cost t
  have running (ht : t.cpuState = .running) : DelayInv (endInstruction s.imePending cost t) :=
    delayInv_of_running (hstate.trans ht)
  have asleep (hpending : t.imePending = s.imePending) (htbug : t.haltBug = s.haltBug) (hn : NotFaulted t) :
      DelayInv (endInstruction s.imePending cost t) := by
    refine delayInv_of_nothing_pending ?_ (hquirk.trans (htbug.trans hbug))
    rw [(endInstruction_ime hn _ cost).2, ← hpending, endEiDelay_imePending_self]
  cases exec_controlEffect h with
  | data hkeeps =>
    obtain ⟨-, -, -, ht, -⟩ := hkeeps
    exact running (ht.trans hrun)
  | stop pad => exact asleep rfl rfl nofun
  | halt =>
    rcases haltCpu_cases s with e | e <;> rw [e] at running asleep ⊢
    · exact running hrun
    · exact asleep rfl rfl nofun
  | di => exact running hrun
  | ei => exact running hrun
  | reti => exact running ((returnFromInterrupt_control s).2.trans hrun)
  | illegal op => exact delayInv_of_faulted hstate

theorem interruptEntry_cpuState (n : Nat) (s : State) : (interruptEntry n s).cpuState = s.cpuState := by
  obtain ⟨-, -, -, hstate, -⟩ := (push16_cpu s.regs.pc s).2.1
  exact hstate

/-- Settles O57: only an instruction puts the machine to sleep, and `endInstruction_delayInv` says how it leaves it. -/
theorem stepKeepsDelayInv : Obligations.StepKeepsDelayInv := by
  unfold Obligations.StepKeepsDelayInv
  intro s t h hst
  have hdma : DelayInv (runDma (takeHostInput s)) := runDma_delayInv (takeHostInput_delayInv h)
  rcases step_cases hst with ⟨-, rfl⟩ | ⟨-, ⟨hrun, -, rfl⟩ | ⟨hrun, -, i, u, -, hu, rfl⟩ | ⟨-, rfl⟩⟩
  · exact hdma
  · exact advanceClock_delayInv _ (delayInv_of_running ((interruptEntry_cpuState _ _).trans hrun))
  · exact endInstruction_delayInv (s := afterFetch i (ready s)) hrun rfl hu _
  · exact advanceClock_delayInv _ (wake_delayInv hdma)

/-! ## Proofs: every machine that has not faulted takes a step -/

theorem runCpu_safe (s : State) : ∃ t, runCpu s = .next t := by
  unfold runCpu
  split
  · split
    · exact ⟨_, rfl⟩
    · obtain ⟨t, ht, -⟩ := exec_form (fetchInstr s) (afterFetch (fetchInstr s) s)
      rw [runInstr, ht]
      exact ⟨_, rfl⟩
  · exact ⟨_, rfl⟩

theorem runStep_safe (s : State) : ∃ t, runStep s = .next t := by
  unfold runStep
  dsimp only
  split
  · exact ⟨_, rfl⟩
  · exact runCpu_safe _

theorem step_faulted {s : State} {r : FatalReason} (h : s.cpuState = .faulted r) : step s = .fault (.fatal r) := by
  rw [step, h]

/-- Settles O5: a step answers a fault for a faulted machine, and `runStep` answers a next state for every other one. -/
theorem stepFaultsOnlyWhenFaulted : Obligations.StepFaultsOnlyWhenFaulted := by
  unfold Obligations.StepFaultsOnlyWhenFaulted
  intro s
  by_cases h : ∃ r, s.cpuState = .faulted r
  · obtain ⟨r, hr⟩ := h
    exact .inl ⟨r, hr, step_faulted hr⟩
  · have hn : NotFaulted s := fun r hr => h ⟨r, hr⟩
    obtain ⟨t, ht⟩ := runStep_safe s
    exact .inr ⟨hn, t, (step_notFaulted hn).trans ht⟩

/-! ## Proofs: the instruction after EI -/

theorem ready_imePending (s : State) : (ready s).imePending = s.imePending := by
  have hdma : (runDma (takeHostInput s)).imePending = s.imePending := by
    rcases runDma_cases (takeHostInput s) with ⟨-, e⟩ | ⟨-, -, e⟩ | ⟨-, -, e⟩ <;> rw [e, takeHostInput_frame]
  unfold ready
  rcases wake_cases (runDma (takeHostInput s)) with e | e <;> rw [e] <;> exact hdma

/-- After an EI, every instruction but DI leaves interrupts to be enabled at its end, or enables them (R28, R337). -/
theorem exec_keeps_imePending {i : Instr} {s t : State} (h : exec i s = .next t) (hi : i ≠ .di)
    (hpending : s.imePending = true) : t.imePending = true ∨ t.ime = true ∧ t.imePending = false := by
  cases exec_controlEffect h with
  | data hkeeps =>
    obtain ⟨-, hkept, -⟩ := hkeeps
    exact .inl (hkept.trans hpending)
  | stop pad => exact .inl hpending
  | halt => rcases haltCpu_cases s with e | e <;> rw [e] <;> exact .inl hpending
  | di => exact absurd rfl hi
  | ei => exact .inl rfl
  | reti => exact (returnFromInterrupt_control s).1
  | illegal op => exact .inl hpending

/-- The end of the delay of EI enables interrupts. -/
theorem endEiDelay_enables {t : State} (h : t.imePending = true ∨ t.ime = true ∧ t.imePending = false) :
    (endEiDelay true t).ime = true ∧ (endEiDelay true t).imePending = false := by
  unfold endEiDelay
  rcases h with h | ⟨hime, h⟩ <;> rw [h]
  · exact ⟨rfl, rfl⟩
  · exact ⟨hime, h⟩

/-- Settles O11: the EI still stands after the instruction, so the end of the instruction enables interrupts. -/
theorem eiTakesEffectAfterOneInstruction : Obligations.EiTakesEffectAfterOneInstruction := by
  unfold Obligations.EiTakesEffectAfterOneInstruction
  intro s t
  show (ready s).cpuState = .running → interruptDue (ready s) = false → _ → fetchInstr (ready s) ≠ .di → _
  intro hrun hdue hpending hdi hst hn
  have hready : (ready s).imePending = true := (ready_imePending s).trans hpending
  obtain ⟨u, hu, -⟩ := exec_form (fetchInstr (ready s)) (afterFetch (fetchInstr (ready s)) (ready s))
  rw [step_fetch hrun hdue, runInstr, hu, hready] at hst
  obtain rfl := Host.Outcome.next.inj hst
  have hun : NotFaulted u := fun r hr => hn r ((endInstruction_cpu _ _ u).1.trans hr)
  obtain ⟨hime, hkept⟩ := endInstruction_ime hun true (instrCost (fetchInstr (ready s))
    (afterFetch (fetchInstr (ready s)) (ready s)))
  rw [hime, hkept]
  exact endEiDelay_enables (exec_keeps_imePending hu hdi hready)

/-! ## Proofs: the instruction of a step -/

/-- The rows `z` of the quarter `x = 0` whose instructions have no operand bytes. -/
theorem decodeX0_noOperand {z : Nat} (h0 : z ≠ 0) (h1 : z ≠ 1) (h6 : z ≠ 6) (y : Nat) (b1 b2 : Byte) :
    decodeX0 y z b1 b2 = decodeX0 y z 0 0 := by
  unfold decodeX0
  split
  case h_1 | h_2 | h_7 => contradiction
  all_goals rfl

/-- The rows `z` of the quarter `x = 3` whose instructions have no operand bytes. -/
theorem decodeX3_noOperand {z : Nat} (h0 : z ≠ 0) (h2 : z ≠ 2) (h3 : z ≠ 3) (h4 : z ≠ 4) (h5 : z ≠ 5) (h6 : z ≠ 6)
    (op : Byte) (y : Nat) (b1 b2 : Byte) : decodeX3 op y z b1 b2 = decodeX3 op y z 0 0 := by
  unfold decodeX3
  split
  case h_1 | h_3 | h_4 | h_5 | h_6 | h_7 => contradiction
  all_goals rfl

/-- An opcode of one byte has no operand, and one of two bytes no second operand byte (R140, R162). -/
theorem decodeBase_operands (op b1 b2 : Byte) :
    (opcodeLength op = 1 → decodeBase op b1 b2 = decodeBase op 0 0) ∧
      (opcodeLength op = 2 → decodeBase op b1 b2 = decodeBase op b1 0) := by
  have hx : fieldX op < 4 := Nat.div_lt_of_lt_mul op.isLt
  have hy : fieldY op < 8 := Nat.mod_lt _ (by decide)
  unfold opcodeLength decodeBase
  dsimp only
  generalize fieldX op = x at hx ⊢
  generalize fieldY op = y at hy ⊢
  generalize fieldZ op = z
  split
  case h_10 h00 h01 h06 h30 h32 h33 h34 h35 h36 =>
    refine ⟨fun _ => ?_, nofun⟩
    interval_cases x
    · exact decodeX0_noOperand (h00 rfl) (h01 rfl) (h06 rfl) y b1 b2
    · rfl
    · rfl
    · exact decodeX3_noOperand (h30 rfl) (h32 rfl) (h33 rfl) (h34 rfl) (h35 rfl) (h36 rfl) op y b1 b2
  all_goals interval_cases y <;> simp [decodeX0, decodeX3]

/-- Where three bytes begin with an instruction, it is the one that a machine with them at `pc` fetches (R145). -/
theorem decodeBytes_of_decode {b0 b1 b2 : Byte} {i : Instr} {rest : List Byte}
    (h : decode [b0, b1, b2] = .ok (i, rest)) : decodeBytes b0 b1 b2 = i := by
  obtain ⟨hone, htwo⟩ := decodeBase_operands b0 b1 b2
  unfold decodeBytes
  simp only [decode] at h
  split at h
  · rw [if_pos ‹_›]
    exact congrArg Prod.fst (Except.ok.inj h)
  · rw [if_neg ‹_›]
    split at h
    case h_1 hlen => exact (hone hlen).trans (congrArg Prod.fst (Except.ok.inj h))
    case h_2 hlen heq =>
      obtain ⟨rfl, rfl⟩ := List.cons.inj heq
      exact (htwo hlen).trans (congrArg Prod.fst (Except.ok.inj h))
    case h_3 heq =>
      obtain ⟨rfl, heq'⟩ := List.cons.inj heq
      obtain ⟨rfl, -⟩ := List.cons.inj heq'
      exact congrArg Prod.fst (Except.ok.inj h)
    case h_4 => cases h

theorem ready_self {s : State} (hrun : s.cpuState = .running) (hinputs : s.hostInputs = [])
    (hdma : s.dmaPending = false) : ready s = s := by
  rw [ready, takeHostInput_nil hinputs, runDma_none hdma, wake_running hrun]

/-- Settles O4: the bytes at `pc` decode to the instruction fetched, and `step_fetch` is the step that runs it. -/
theorem stepRunsDecodedInstruction : Obligations.StepRunsDecodedInstruction := by
  unfold Obligations.StepRunsDecodedInstruction
  intro s i rest
  refine ⟨ready_self, interruptDue_iff _, fun w cost t => ⟨?alive, ?faulted⟩, fun hrun hdue hdecode => ⟨rfl, ?run⟩⟩
  case alive => exact fun h => endInstruction_notFaulted h w cost
  case faulted => exact fun r h => endInstruction_faulted h w cost
  case run =>
    have hfetch : fetchInstr (ready s) = i := decodeBytes_of_decode hdecode
    rw [step_fetch hrun hdue, hfetch]
    rfl

/-! ## Proofs: loads -/

/-- A value written to a register, with its frame. -/
theorem setOperand8_result {dst : Operand8} (h : dst ≠ .atHl) (v : Byte) (s : State) :
    RegisterResult dst v s (setOperand8 dst v s) ∧ (setOperand8 dst v s).regs.f = s.regs.f := by
  obtain ⟨honly, hvalue, hkept, hflags, hpointers⟩ := setOperand8_reg h v s
  exact ⟨⟨honly, hvalue, hkept, hpointers⟩, hflags⟩

/-- Settles O12: a load is a write to a register or a store at `HL`, each with its frame. -/
theorem loadsOfOneByte : Obligations.LoadsOfOneByte := by
  unfold Obligations.LoadsOfOneByte
  intro dst src n s
  refine ⟨fun hdst => ⟨?load, ?imm⟩, fun hsrc => ?store, ?storeImm, wordOf_toNat _ _⟩
  case load => exact ⟨_, exec_load (.inl hdst) s, setOperand8_result hdst _ s⟩
  case imm => exact ⟨_, exec_loadImm dst n s, setOperand8_result hdst n s⟩
  case store => exact ⟨_, exec_load (.inr hsrc) s, busWrite_result _ _ s⟩
  case storeImm => exact ⟨_, exec_loadImm .atHl n s, busWrite_result _ n s⟩

/-- Writing a pair leaves `A`, the flags and `pc` alone. -/
theorem setPair_keeps (p : Pair) (v : Word) (s : State) :
    (setPair p v s).regs.a = s.regs.a ∧ (setPair p v s).regs.f = s.regs.f ∧ (setPair p v s).regs.pc = s.regs.pc := by
  cases p <;> exact ⟨rfl, rfl, rfl⟩

/-- `SP + e8`: the exact sum, wrapped, and the carries of the unsigned addition of the low bytes (R224, R272). -/
theorem addSpResult_eq (sp : Word) (e : Byte) :
    addSpResult sp e =
      (BitVec.ofInt 16 (sp.toNat + e.toInt),
        { z := false, n := false, h := decide (15 < sp.toNat % 16 + e.toNat % 16)
          c := decide (255 < sp.toNat % 256 + e.toNat) }) := by
  rw [← add_sext16]
  rfl

/-- `LD HL,SP+e8` changes `H`, `L` and the flags. -/
theorem loadHlFromSp_keeps8 (e : Byte) (s : State) : Keeps8 [.h, .l] s (loadHlFromSp e s) := by
  intro o hmem hother
  cases o
  case atHl => exact absurd rfl hmem
  case h => exact absurd (by simp) hother
  case l => exact absurd (by simp) hother
  all_goals rfl

/-- `ADD SP,e8` changes no 8-bit register but the flags. -/
theorem addToSp_keeps8 (e : Byte) (s : State) : Keeps8 [] s (addToSp e s) := by
  intro o hmem _
  cases o
  case atHl => exact absurd rfl hmem
  all_goals rfl

/-- Settles O14: a pair is written with its frame, `SP` by two stores, and the signed sums are `addSpResult_eq`. -/
theorem loadsOfPairsAndSp : Obligations.LoadsOfPairsAndSp := by
  unfold Obligations.LoadsOfPairsAndSp
  intro e nn s
  dsimp only
  refine ⟨fun p => ?pair, fun p => ?pairA, ⟨_, rfl, rfl⟩, ?storeSp, ?hlFromSp, ?addSp⟩
  case pair =>
    obtain ⟨-, hflags, hpc⟩ := setPair_keeps p nn s
    exact ⟨_, exec_loadPair p nn s, getPair_setPair p nn s, setPair_onlyRegs p nn s, hflags, hpc,
      fun q hq => getPair_setPair_other hq nn s⟩
  case pairA => exact ⟨_, exec_loadPair p nn s, (setPair_keeps p nn s).1⟩
  case storeSp => exact ⟨_, _, rfl, busWrite_result nn _ s, busWrite_result (nn + 1) _ _⟩
  case hlFromSp =>
    have hresult := addSpResult_eq s.regs.sp e
    exact ⟨_, rfl, rfl, (setHl_hl _ s).trans (congrArg Prod.fst hresult), congrArg Prod.snd hresult,
      loadHlFromSp_keeps8 e s, rfl, rfl⟩
  case addSp =>
    have hresult := addSpResult_eq s.regs.sp e
    exact ⟨_, rfl, rfl, congrArg Prod.fst hresult, congrArg Prod.snd hresult, addToSp_keeps8 e s, rfl⟩

/-! ## Proofs: the flags -/

theorem setOperand8_flags (o : Operand8) (v : Byte) (s : State) : (setOperand8 o v s).regs.f = s.regs.f := by
  by_cases h : o = .atHl
  · rw [h, setOperand8_atHl, busWrite_regs]
  · exact (setOperand8_result h v s).2

theorem setPair_flags (p : Pair) (v : Word) (s : State) : (setPair p v s).regs.f = s.regs.f := (setPair_keeps p v s).2.1

theorem stepPointer_flags (p : Pointer) (s : State) : (stepPointer p s).regs.f = s.regs.f := by cases p <;> rfl

theorem busWrite_flags (a : Word) (v : Byte) (s : State) : (busWrite a v s).regs.f = s.regs.f := by
  rw [busWrite_regs]

theorem busWrite16_flags (a v : Word) (s : State) : (busWrite16 a v s).regs.f = s.regs.f := by
  rw [busWrite16, busWrite_flags, busWrite_flags]

theorem push16_flags (v : Word) (s : State) : (push16 v s).regs.f = s.regs.f := by rw [(push16_cpu v s).1]

theorem callTo_flags (a : Word) (s : State) : (callTo a s).regs.f = s.regs.f := by rw [callTo_regs]

theorem haltCpu_flags (s : State) : (haltCpu s).regs.f = s.regs.f := by
  unfold haltCpu
  split <;> rfl

theorem returnFromInterrupt_flags (s : State) : (returnFromInterrupt s).regs.f = s.regs.f := by
  unfold returnFromInterrupt enableAfterReturn
  split <;> rfl

theorem whenCond_flags (cc : Cond) {f : State → State} {s : State} (h : (f s).regs.f = s.regs.f) :
    (whenCond cc f s).regs.f = s.regs.f := by
  unfold whenCond
  split
  · exact h
  · rfl

/-- A store of `A` through a pointer is `storeAVia`, a load is `loadAVia`. -/
theorem exec_storeA (p : Pointer) (s : State) : exec (.storeA p) s = .next (storeAVia p s) := by cases p <;> rfl

theorem exec_loadA (p : Pointer) (s : State) : exec (.loadA p) s = .next (loadAVia p s) := by cases p <;> rfl

/-- The instruction answers a next state with the flags it was given. -/
def KeepsFlags (i : Instr) (s : State) : Prop := ∃ t, exec i s = .next t ∧ t.regs.f = s.regs.f

/-- The loads keep the flags, the slot of `LD (HL),(HL)` being HALT. -/
theorem keepsFlags_load (dst src : Operand8) (s : State) : KeepsFlags (.load dst src) s := by
  by_cases h : dst = .atHl ∧ src = .atHl
  · obtain ⟨rfl, rfl⟩ := h
    exact ⟨_, rfl, haltCpu_flags s⟩
  · exact ⟨_, exec_load (not_and_or.1 h) s, setOperand8_flags _ _ s⟩

/-- Settles O29, family by family: no shared operation outside R47's table writes the flags. -/
theorem flagsKeptElsewhere : Obligations.FlagsKeptElsewhere := by
  unfold Obligations.FlagsKeptElsewhere
  intro i s t ht hi
  suffices h : KeepsFlags i s by
    obtain ⟨u, hu, hflags⟩ := h
    obtain rfl := Host.Outcome.next.inj (hu.symm.trans ht)
    exact hflags
  rcases hi with ⟨dst, src, rfl⟩ | ⟨dst, n, rfl⟩ | ⟨p, rfl⟩ | ⟨p, rfl⟩ | ⟨n, rfl | rfl⟩ | rfl | rfl |
    ⟨nn, rfl | rfl | rfl⟩ | rfl | ⟨p, nn, rfl⟩ | ⟨p, rfl⟩ | rfl | rfl | rfl | ⟨p, rfl | rfl⟩ | ⟨k, x, rfl | rfl⟩ |
    ⟨nn, rfl | rfl⟩ | ⟨cc, nn, rfl | rfl⟩ | rfl | ⟨dist, rfl⟩ | ⟨cc, dist, rfl⟩ | rfl | ⟨cc, rfl⟩ | rfl | ⟨k, rfl⟩ |
    rfl | rfl | ⟨n, rfl⟩ | rfl | rfl
  · exact keepsFlags_load dst src s
  · exact ⟨_, exec_loadImm dst n s, setOperand8_flags dst n s⟩
  · exact ⟨_, exec_storeA p s, (stepPointer_flags p _).trans (busWrite_flags _ _ s)⟩
  · exact ⟨_, exec_loadA p s, stepPointer_flags p _⟩
  · exact ⟨_, rfl, busWrite_flags _ _ s⟩
  · exact ⟨_, rfl, rfl⟩
  · exact ⟨_, rfl, busWrite_flags _ _ s⟩
  · exact ⟨_, rfl, rfl⟩
  · exact ⟨_, rfl, busWrite_flags _ _ s⟩
  · exact ⟨_, rfl, rfl⟩
  · exact ⟨_, rfl, busWrite16_flags _ _ s⟩
  · exact ⟨_, rfl, rfl⟩
  · exact ⟨_, exec_loadPair p nn s, setPair_flags p nn s⟩
  · exact ⟨_, exec_push p s, push16_flags _ s⟩
  · exact ⟨_, rfl, rfl⟩
  · exact ⟨_, rfl, rfl⟩
  · exact ⟨_, rfl, rfl⟩
  · exact ⟨_, exec_incPair p s, setPair_flags p _ s⟩
  · exact ⟨_, exec_decPair p s, setPair_flags p _ s⟩
  · exact ⟨_, exec_res k x s, setOperand8_flags x _ s⟩
  · exact ⟨_, exec_set k x s, setOperand8_flags x _ s⟩
  · exact ⟨_, rfl, rfl⟩
  · exact ⟨_, rfl, callTo_flags nn s⟩
  · exact ⟨_, exec_jpIf cc nn s, whenCond_flags cc rfl⟩
  · exact ⟨_, exec_callIf cc nn s, whenCond_flags cc (callTo_flags nn s)⟩
  · exact ⟨_, rfl, rfl⟩
  · exact ⟨_, rfl, rfl⟩
  · exact ⟨_, exec_jrIf cc dist s, whenCond_flags cc rfl⟩
  · exact ⟨_, rfl, rfl⟩
  · exact ⟨_, exec_retIf cc s, whenCond_flags cc rfl⟩
  · exact ⟨_, rfl, returnFromInterrupt_flags s⟩
  · exact ⟨_, exec_rst k s, callTo_flags _ s⟩
  · exact ⟨_, rfl, rfl⟩
  · exact ⟨_, rfl, haltCpu_flags s⟩
  · exact ⟨_, rfl, rfl⟩
  · exact ⟨_, rfl, rfl⟩
  · exact ⟨_, rfl, rfl⟩

/-! ## Proofs: the plain registers -/

theorem regionOf_ie : ∀ boot, regionOf boot 0xFFFF = .ie := by decide

theorem busWrite_ieRegister (v : Byte) (s : State) : busWrite 0xFFFF v s = { s with ie := v } :=
  congrArg (regionWrite · v s) (regionOf_ie s.bootEnabled)

theorem busRead_ieRegister (s : State) : busRead s 0xFFFF = s.ie :=
  congrArg (regionRead s) (regionOf_ie s.bootEnabled)

/-- `SC` reads its bits 6:1 as 1 (R104). -/
theorem sc_missing_bits (v : Byte) {i : Nat} (h : i < 8) :
    (v ||| 0x7E).getLsbD i = (v.getLsbD i || decide (1 ≤ i ∧ i ≤ 6)) := by
  have hmask : ∀ j < 8, (0x7E : Byte).getLsbD j = decide (1 ≤ j ∧ j ≤ 6) := by decide
  rw [BitVec.getLsbD_or, hmask i h]

/-- `IF` reads its bits 7:5 as 1 (R32). -/
theorem iflag_missing_bits : ∀ f : BitVec 5, (0xE0 ||| f.setWidth 8 : Byte).toNat = 0xE0 + f.toNat := by decide

/-- Settles O47: each store and each load is its handler's, and the bits that do not exist read as 1. -/
theorem plainRegisters : Obligations.PlainRegisters := by
  unfold Obligations.PlainRegisters
  intro v s
  have store (a : Word) (h : 0xFF00 ≤ a.toNat ∧ a.toNat < 0xFF80) := busWrite_io s v h.1 h.2
  have load (a : Word) (h : 0xFF00 ≤ a.toNat ∧ a.toNat < 0xFF80) := busRead_io s h.1 h.2
  refine ⟨⟨store 0xFF01 (by decide), load 0xFF01 (by decide)⟩, ⟨store 0xFF02 (by decide), fun i hi => ?sc⟩,
    ⟨?iflagStore, ?iflagLoad⟩, ⟨busWrite_ieRegister v s, busRead_ieRegister s⟩,
    ⟨store 0xFF42 (by decide), load 0xFF42 (by decide)⟩, ⟨store 0xFF43 (by decide), load 0xFF43 (by decide)⟩,
    ⟨store 0xFF47 (by decide), load 0xFF47 (by decide)⟩, ⟨store 0xFF48 (by decide), load 0xFF48 (by decide)⟩,
    ⟨store 0xFF49 (by decide), load 0xFF49 (by decide)⟩, ⟨store 0xFF4A (by decide), load 0xFF4A (by decide)⟩,
    ⟨store 0xFF4B (by decide), load 0xFF4B (by decide)⟩⟩
  case sc =>
    rw [load 0xFF02 (by decide)]
    exact sc_missing_bits s.sc hi
  case iflagStore =>
    rw [BitVec.ofNat_toNat]
    exact store 0xFF0F (by decide)
  case iflagLoad =>
    rw [load 0xFF0F (by decide)]
    exact iflag_missing_bits s.iflag

/-! ## Proofs: the invariants at reset -/

theorem reset_apuInv : ApuInv State.reset := by
  have hclock : State.reset.apu.sampleAcc < clockRate := by decide
  refine ⟨?_, ?_, ?_, ?_, ?_, ?_, ?_, ?_, rfl, ?_, hclock, fun _ => ⟨rfl, rfl, rfl, rfl, rfl⟩⟩ <;> exact Nat.zero_le _

/-- Settles O59: every counter and memory is at rest at reset, and the machine runs. -/
theorem resetSatisfiesInvariants : Obligations.ResetSatisfiesInvariants := by
  unfold Obligations.ResetSatisfiesInvariants
  refine ⟨⟨rfl, rfl, rfl⟩, reset_memoryInv, ?ppu, reset_apuInv, trivial, ?delay, ?params⟩
  case ppu => exact ⟨rfl, rfl, rfl, rfl, rfl, rfl⟩
  case delay => exact fun _ => .inl rfl
  case params => exact show validParams defaultParams = true by decide

end Sys2Proof.Proofs
end

section
/-! Proofs of the statements of 20_memory.md: the interrupt that a step takes, the OAM DMA copy, the joypad register,
and what a store to memory changes, leaves alone and loses. -/

namespace Sys2Proof.Proofs

open Sys2Proof Machine Laws

/-! ## Proofs: the interrupt that a step takes -/

/-- The lowest source is the one whose bit is set and below which none is. -/
theorem lowestSource_eq {p : BitVec 5} {n : Nat} (hn : p.getLsbD n = true) (hlow : ∀ j < n, p.getLsbD j = false) :
    lowestSource p = n := by
  have hp : p ≠ 0 := by
    rintro rfl
    simp at hn
  obtain ⟨-, hset, hmin⟩ := lowestSource_spec p hp
  rcases Nat.lt_trichotomy (lowestSource p) n with h | h | h
  · exact absurd hset (by rw [hlow _ h]; decide)
  · exact h
  · exact absurd hn (by rw [hmin n h]; decide)

/-- A running machine with an interrupt due enters the lowest source (R352, R355). -/
theorem runCpu_interrupt {s : State} (hrun : s.cpuState = .running) (hdue : interruptDue s = true) :
    runCpu s = .next (advanceClock interruptCost (interruptEntry (lowestSource (pendingSources s)) s)) := by
  rw [runCpu, hrun]
  exact if_pos hdue

theorem interruptEntry_cpuClock (n : Nat) (s : State) : (interruptEntry n s).cpuClock = s.cpuClock := by
  obtain ⟨-, -, -, -, hclock, -⟩ := (push16_cpu s.regs.pc s).2.1
  exact hclock

/-- The wake-up check sets a machine running that runs, sleeps with a request waiting, or is stopped and woken. -/
theorem wake_eq_running {u : State} (hreq : pendingSources u ≠ 0)
    (h : u.cpuState = .running ∨ u.cpuState = .halted ∨ (u.cpuState = .stopped ∧ stopWakes u = true)) :
    wake u = { u with cpuState := .running } := by
  rcases h with h | h | ⟨h, hwakes⟩
  · rw [wake_running h, ← h]
  · rw [wake_halted h, if_pos hreq]
  · rw [wake_stopped h, if_pos hwakes]

/-- Settles O7: the wake-up check leaves the machine running with the interrupt due, and `lowestSource_eq` names it. -/
theorem stepTakesLowestInterrupt : Obligations.StepTakesLowestInterrupt := by
  unfold Obligations.StepTakesLowestInterrupt
  intro s n
  dsimp only
  refine ⟨fun hinputs hdma => by rw [takeHostInput_nil hinputs, runDma_none hdma], fun hstate hime hn hbit hlow => ?_⟩
  have hclock : (wake (runDma (takeHostInput s))).cpuClock = s.cpuClock := ready_cpuClock s
  have hstep : NotFaulted (runDma (takeHostInput s)) → step s = runCpu (wake (runDma (takeHostInput s))) := step_ready
  generalize runDma (takeHostInput s) = u at *
  have hready : wake u = { u with cpuState := .running } :=
    wake_eq_running ((pendingSources_ne_zero_iff u).2 ⟨n, hn, hbit⟩) hstate
  have hdue : interruptDue { u with cpuState := .running } = true := (interruptDue_iff _).2 ⟨hime, n, hn, hbit⟩
  have hlowest : lowestSource (pendingSources { u with cpuState := .running }) = n :=
    lowestSource_eq ((pendingSources_bit u hn).trans hbit) fun j hj =>
      (pendingSources_bit u (hj.trans hn)).trans (hlow j hj)
  have hlive : NotFaulted u := fun r hr => by simp [hr] at hstate
  refine ⟨_, ?_, rfl, ?_⟩
  · rw [hstep hlive, hready, runCpu_interrupt rfl hdue, hlowest, interruptCost]
  · rw [advanceClock_cpuClock, interruptEntry_cpuClock, ← hready, hclock]

/-! ## Proofs: the OAM DMA copy -/

/-- A step looks at nothing but the CPU state and what the host's input and the DMA copy leave. -/
theorem step_congr {s t : State} (hc : s.cpuState = t.cpuState)
    (hu : runDma (takeHostInput s) = runDma (takeHostInput t)) : step s = step t := by
  unfold step runStep
  rw [hc, hu]

/-- A pending copy from any page but 0xFE fills `OAM` and is done (R110). -/
theorem runDma_copies {s : State} (hp : s.dmaPending = true) (hd : s.dma ≠ 0xFE) :
    runDma s = { s with oam := Memory.ofBytes 0 (dmaBytes s), dmaPending := false } := by
  rcases runDma_cases s with ⟨h, -⟩ | ⟨-, h, -⟩ | ⟨-, -, h⟩
  · exact absurd (hp.symm.trans h) (by decide)
  · exact absurd h hd
  · exact h

/-- A pending copy from page 0xFE is a fatal fault (R112). -/
theorem runDma_overlap {s : State} (hp : s.dmaPending = true) (hd : s.dma = 0xFE) :
    runDma s = { s with cpuState := .faulted (.dmaOverlap 0xFE) } := by
  rcases runDma_cases s with ⟨h, -⟩ | ⟨-, -, h⟩ | ⟨-, h, -⟩
  · exact absurd (hp.symm.trans h) (by decide)
  · exact h
  · exact absurd hd h

/-- The bytes that the copy lists, one by one (R110). -/
theorem read_ofBytes_dmaBytes (s : State) {i : Nat} (h : i < 160) :
    (Memory.ofBytes 0 (dmaBytes s)).read i =
      busRead { s with ppu := { s.ppu with vramAccess := true, oamAccess := true } }
        (BitVec.ofNat 16 (s.dma.toNat * 256 + i)) := by
  rw [memory_read_ofBytes, if_pos (Nat.zero_le i)]
  simp [dmaBytes, h]

/-- The host's input does not touch the DMA register. -/
theorem takeHostInput_dma (s : State) :
    (takeHostInput s).dmaPending = s.dmaPending ∧ (takeHostInput s).dma = s.dma := by
  rw [takeHostInput_frame]
  exact ⟨rfl, rfl⟩

/-- Settles O10: the DMA part of a step is a copy (`runDma_copies`) or a fault (`runDma_overlap`), and a step after the
copy begins where this one goes on. -/
theorem oamDma : Obligations.OamDma := by
  unfold Obligations.OamDma
  intro s
  refine ⟨fun v => busWrite_io s v (by decide) (by decide), busRead_io s (by decide) (by decide),
    fun hp hd => ?copy, fun hp hd hs => ?overlap⟩
  case copy =>
    have hcopy := runDma_copies hp hd
    have hcpu : (runDma s).cpuState = s.cpuState := by rw [hcopy]
    have hpending : (runDma s).dmaPending = false := by rw [hcopy]
    have hkept : (runDma s).hostInputs = s.hostInputs := by rw [hcopy]
    refine ⟨by rw [hcopy], fun hinputs => step_congr hcpu.symm ?_, fun i hi => ?_⟩
    · rw [takeHostInput_nil (hkept.trans hinputs), takeHostInput_nil hinputs, runDma_none hpending]
    · rw [hcopy, read_ofBytes_dmaBytes s hi]
  case overlap =>
    obtain ⟨hpending, hpage⟩ := takeHostInput_dma s
    have hdma := runDma_overlap (hpending.trans hp) (hpage.trans hd)
    rw [step_dmaFault hs (by rw [hdma]; exact ⟨_, rfl⟩), hdma]

/-! ## Proofs: the joypad -/

/-- A group of four buttons on the lines: all 1 unless it is selected, by a 0 (R102). -/
theorem joypGroup_bit : ∀ (unselected : Bool) (pressed : BitVec 4), ∀ i < 4,
    (if unselected then 0xF else ~~~pressed).getLsbD i = !(!unselected && pressed.getLsbD i) := by decide

/-- Joypad line `i`: 0 exactly where a selected button is pressed (R102). -/
def joypLine (sel : BitVec 2) (b : Buttons) (i : Nat) : Bool :=
  !((!sel.getLsbD 0 && b.direction.getLsbD i) || (!sel.getLsbD 1 && b.action.getLsbD i))

theorem joypLines_bit (sel : BitVec 2) (b : Buttons) {i : Nat} (h : i < 4) :
    (joypLines sel b).getLsbD i = joypLine sel b i := by
  rw [joypLine, joypLines, BitVec.getLsbD_and, joypGroup_bit _ _ i h, joypGroup_bit _ _ i h, Bool.not_or]

/-- Bits 7:4 of `JOYP`: the two missing bits 1, and the selection (R102). -/
theorem readJoyp_high (s : State) : (readJoyp s).toNat / 16 = 0xC + s.joypSelect.toNat := by
  have hbits : ∀ (sel : BitVec 2) (l : BitVec 4),
      (0xC0 ||| (sel.setWidth 8 <<< 4) ||| l.setWidth 8 : Byte).toNat / 16 = 0xC + sel.toNat := by decide
  exact hbits _ _

/-- Lines fall where some line goes from 1 to 0. -/
theorem lineFalls_joypLines (sel sel' : BitVec 2) (b b' : Buttons) :
    lineFalls (joypLines sel b) (joypLines sel' b') =
      (List.range 4).any fun i => joypLine sel b i && !joypLine sel' b' i := by
  have hbits : ∀ old new : BitVec 4,
      lineFalls old new = true ↔ ∃ i ∈ List.range 4, (old.getLsbD i && !new.getLsbD i) = true := by decide
  rw [Bool.eq_iff_iff, hbits, List.any_eq_true]
  refine exists_congr fun i => and_congr_right fun hi => ?_
  rw [joypLines_bit _ _ (List.mem_range.1 hi), joypLines_bit _ _ (List.mem_range.1 hi)]

theorem requestInterrupt_bit {m : Nat} (raised : Bool) (f : BitVec 5) {n : Nat} (hn : n < 5) :
    (requestInterrupt m raised f).getLsbD n = (f.getLsbD n || (decide (n = m) && raised)) := by
  unfold requestInterrupt
  cases raised
  · simp
  · rw [if_pos rfl, BitVec.getLsbD_or, BitVec.getLsbD_ofNat, Nat.testBit_two_pow]
    simp [hn, eq_comm]

/-- What a new selection or new buttons request: interrupt 4, where a line goes from 1 to 0 (R102). -/
theorem setJoypad_request (sel : BitVec 2) (b : Buttons) (s : State) {n : Nat} (hn : n < 5) :
    (setJoypad sel b s).iflag.getLsbD n =
      (s.iflag.getLsbD n || (decide (n = 4) && (List.range 4).any fun i =>
        joypLine s.joypSelect s.buttons i && !joypLine sel b i)) := by
  rw [setJoypad, requestInterrupt_bit _ _ hn, lineFalls_joypLines]

/-- The selection that a store to `JOYP` takes: bits 5:4 of the byte (R102). -/
theorem extract_joypSelect (v : Byte) : v.extractLsb' 4 2 = BitVec.ofNat 2 (v.toNat / 16) := by
  apply BitVec.eq_of_toNat_eq
  simp [Nat.shiftRight_eq_div_pow]

theorem foldl_hostPress_hostInputs (events : List Buttons) (s : State) :
    (events.foldl hostPress s).hostInputs = s.hostInputs := by
  induction events generalizing s with
  | nil => rfl
  | cons b bs ih => exact ih (hostPress s b)

/-- The step of the machine that the host's changes leave is the step that began with them (R352, R380). -/
theorem step_takeHostInput {s : State} {events : List Buttons} {later : List (List Buttons)}
    (h : s.hostInputs = events :: later) : step s = step { takeHostInput s with hostInputs := [] :: later } := by
  have hlater : (takeHostInput s).hostInputs = later := by
    rw [takeHostInput_cons h, foldl_hostPress_hostInputs]
  have hnone : takeHostInput { takeHostInput s with hostInputs := [] :: later } = takeHostInput s := by
    rw [takeHostInput_cons (s := { takeHostInput s with hostInputs := [] :: later }) rfl, List.foldl_nil, ← hlater]
  exact step_congr (takeHostInput_cpuState s).symm (congrArg runDma hnone.symm)

/-- Settles O48: a store and the host's press are both `setJoypad`, and the host's changes begin a step. -/
theorem joypadRegister : Obligations.JoypadRegister := by
  unfold Obligations.JoypadRegister
  intro v b s
  have hread : busRead s 0xFF00 = readJoyp s := busRead_io s (by decide) (by decide)
  have hwrite : busWrite 0xFF00 v s = setJoypad (BitVec.ofNat 2 (v.toNat / 16)) s.buttons s := by
    rw [busWrite_io s v (by decide) (by decide), ← extract_joypSelect]
    rfl
  refine ⟨fun i hi => (busRead_joyp_line s hi).trans (joypLines_bit _ _ hi), ?high, ?store, ?storeRequest, rfl, ?press,
    takeHostInput_nil, fun events later h => ⟨takeHostInput_cons h, step_takeHostInput h⟩⟩
  case high => rw [hread, readJoyp_high]
  case store => rw [hwrite]; rfl
  case storeRequest =>
    rw [hwrite]
    exact fun n hn => setJoypad_request _ s.buttons s hn
  case press => exact fun n hn => setJoypad_request s.joypSelect b s hn

/-! ## Proofs: a load after a store -/

/-- The cells of the boot image and of the cartridge image, which no store changes (R76, R78). -/
def isReadOnlyCell : MemoryCell → Bool
  | .bootRom _ => true
  | .cartRom _ => true
  | _ => false

/-- Of the addresses that stand for memory, those of the images are the ones where a store does something else. -/
theorem isPlainTarget_of_cell {s : State} {a : Word} {c : MemoryCell} (hc : cellOf s a = some c) :
    isPlainTarget s a = !isReadOnlyCell c := by
  unfold cellOf at hc
  unfold isPlainTarget
  generalize regionOf s.bootEnabled a.toNat = r at *
  cases r
  case cart n =>
    by_cases hn : n < 0x8000
    · simp only [regionCell, if_pos hn, Option.some.injEq] at hc
      subst hc
      simpa [isReadOnlyCell] using hn
    · simp only [regionCell, if_neg hn, Option.map_eq_some_iff] at hc
      obtain ⟨k, -, rfl⟩ := hc
      simpa [isReadOnlyCell] using hn
  case io r => cases r <;> cases hc; rfl
  all_goals cases hc <;> rfl

/-- An open address that stands for the same byte as a storable one is storable too. -/
theorem isStorable_of_same_cell {s : State} {a b : Word} (ha : isStorable s a = true) (hb : isUngated s b = true)
    (h : cellOf s b = cellOf s a) : isStorable s b = true := by
  obtain ⟨hplain, -, c, hc⟩ := (isStorable_iff s a).1 ha
  have hcb : cellOf s b = some c := h.trans hc
  rw [isPlainTarget_of_cell hc, ← isPlainTarget_of_cell hcb] at hplain
  exact (isStorable_iff s b).2 ⟨hplain, hb, c, hcb⟩

/-- Settles O49: the load reads the cell, and the store has put the byte there. -/
theorem storedByteReadsBack : Obligations.StoredByteReadsBack := by
  unfold Obligations.StoredByteReadsBack
  intro a b v s hinv ha hb hcell
  obtain ⟨hplain, -, c, hc⟩ := (isStorable_iff s a).1 ha
  have hstorable := isStorable_of_same_cell ha hb hcell
  rw [busRead_cell ((isStorable_busWrite v b hplain).trans hstorable)
    ((cellOf_busWrite v b hplain).trans (hcell.trans hc))]
  exact cellRead_busWrite_same v hinv ha hc

/-- A load through an open gate, where the address stands for memory, is the byte of its cell. -/
theorem busRead_ungated {s : State} {a : Word} {c : MemoryCell} (hopen : isUngated s a = true)
    (hc : cellOf s a = some c) : busRead s a = cellRead c s := by
  unfold isUngated at hopen
  unfold cellOf at hc
  unfold busRead
  generalize regionOf s.bootEnabled a.toNat = r at *
  cases r
  case cart n =>
    by_cases hn : n < 0x8000
    · simp only [regionCell, if_pos hn, Option.some.injEq] at hc
      subst hc
      simp only [regionRead, cartRead, if_pos hn, cellRead]
    · simp only [regionCell, if_neg hn, Option.map_eq_some_iff] at hc
      obtain ⟨k, hk, rfl⟩ := hc
      simp only [regionRead, cartRead, if_neg hn, cartExternalRead, hk, cellRead]
  case vram k => cases hc; exact if_pos hopen
  case oam k => cases hc; exact if_pos hopen
  case io r => cases r <;> cases hc; rfl
  all_goals cases hc <;> rfl

/-- Through a closed gate a load gives 0xFF and a store is lost (R77). -/
theorem bus_gated {s : State} {a : Word} (v : Byte) (h : isUngated s a = false) :
    busRead s a = 0xFF ∧ busWrite a v s = s := by
  unfold isUngated at h
  unfold busRead busWrite
  generalize regionOf s.bootEnabled a.toNat = r at *
  cases r
  case vram k => simp [regionRead, regionWrite, show s.ppu.vramAccess = false from h]
  case oam k => simp [regionRead, regionWrite, show s.ppu.oamAccess = false from h]
  all_goals cases h

theorem busWrite_bootEnabled {s : State} {a : Word} (v : Byte) (h : isPlainTarget s a = true) :
    (busWrite a v s).bootEnabled = s.bootEnabled := by
  obtain ⟨-, -, -, -, -, -, -, -, -, hboot⟩ := busWrite_devices v h
  exact hboot

/-- A store that reaches no register leaves the gates alone. -/
theorem isUngated_busWrite {s : State} {a : Word} (v : Byte) (b : Word) (h : isPlainTarget s a = true) :
    isUngated (busWrite a v s) b = isUngated s b := by
  obtain ⟨-, -, -, -, hppu, -, -, -, -, hboot⟩ := busWrite_devices v h
  simp only [isUngated, hppu, hboot]

/-- A device register that is not wave RAM reads from the devices and the buttons alone. -/
theorem ioRead_congr {s t : State} {r : IoReg} (hr : ∀ k, r ≠ .wave k) (hdev : KeepsDevices s t)
    (hbuttons : t.buttons = s.buttons) : ioRead t r = ioRead s r := by
  obtain ⟨htimer, hselect, hsb, hsc, hppu, hapu, hiflag, hdma, -, -⟩ := hdev
  cases r
  case wave k => exact absurd rfl (hr k)
  all_goals simp only [ioRead, readJoyp, htimer, hselect, hsb, hsc, hppu, hapu, hiflag, hdma, hbuttons]

/-- A row of the map with no memory behind it reads from the devices, the buttons, `IE` and the cartridge's mapping. -/
theorem regionRead_congr {s t : State} {r : Region} (hr : regionCell s.cart r = none) (hdev : KeepsDevices s t)
    (hbuttons : t.buttons = s.buttons) (hwindow : SameWindow s.cart t.cart) (hie : r = .ie → t.ie = s.ie) :
    regionRead t r = regionRead s r := by
  cases r
  case cart n =>
    obtain ⟨hram, -, hread⟩ := hwindow
    have hn : ¬n < 0x8000 := fun hn => by simp [regionCell, hn] at hr
    have hnone : ramWindow s.cart n = none := by simpa [regionCell, hn] using hr
    simp only [regionRead, cartRead, if_neg hn, cartExternalRead, hram, hnone, hread]
  case io r => exact ioRead_congr (fun k hk => by subst hk; cases hr) hdev hbuttons
  case ie => exact hie rfl
  case oamTail => rfl
  all_goals cases hr

/-- 0xFFFF is the only address of `IE` (R75). -/
theorem eq_of_regionOf_ie {boot : Bool} {a : Word} (h : regionOf boot a.toNat = .ie) : a = 0xFFFF := by
  have hrows := regionOf_cases boot a.isLt
  simp only [h, reduceCtorEq, and_false, false_or, and_true] at hrows
  exact BitVec.eq_of_toNat_eq hrows

/-- A store that reaches no register leaves the other addresses without memory alone. -/
theorem busRead_busWrite_noCell {s : State} {a b : Word} (v : Byte) (ha : isPlainTarget s a = true) (hne : a ≠ b)
    (hb : cellOf s b = none) : busRead (busWrite a v s) b = busRead s b := by
  rw [busRead, busWrite_bootEnabled v ha]
  exact regionRead_congr hb (busWrite_devices v ha) (busWrite_buttons a v s) (busWrite_window v ha) fun hie =>
    busWrite_ie v s fun hff => hne (hff.trans (eq_of_regionOf_ie hie).symm)

/-- Settles O50: an address without memory is `busRead_busWrite_noCell`; another cell is not the one stored to, and is
read through the same gate. -/
theorem storeLeavesOtherAddresses : Obligations.StoreLeavesOtherAddresses := by
  unfold Obligations.StoreLeavesOtherAddresses
  intro a b v s ha hne hcell
  cases hc : cellOf s b with
  | none => exact busRead_busWrite_noCell v ha hne hc
  | some c =>
    have hother : cellOf s a ≠ some c := fun h => by simp [hc, h] at hcell
    cases hgate : isUngated s b
    · rw [(bus_gated v ((isUngated_busWrite v b ha).trans hgate)).1, (bus_gated v hgate).1]
    · rw [busRead_ungated ((isUngated_busWrite v b ha).trans hgate) ((cellOf_busWrite v b ha).trans hc),
        busRead_ungated hgate hc, busWrite_cell a v s c hother]

/-! ## Proofs: gates, overlay and holes -/

theorem regionOf_vram (boot : Bool) {a : Nat} (h : 0x8000 ≤ a) (h' : a < 0xA000) :
    regionOf boot a = .vram (a - 0x8000) := by
  unfold regionOf
  repeat rw [if_neg (by omega)]
  exact if_pos h'

theorem regionOf_oam (boot : Bool) {a : Nat} (h : 0xFE00 ≤ a) (h' : a < 0xFEA0) :
    regionOf boot a = .oam (a - 0xFE00) := by
  unfold regionOf
  repeat rw [if_neg (by omega)]
  exact if_pos h'

theorem regionOf_oamTail (boot : Bool) {a : Nat} (h : 0xFEA0 ≤ a) (h' : a < 0xFF00) : regionOf boot a = .oamTail := by
  unfold regionOf
  repeat rw [if_neg (by omega)]
  exact if_pos h'

theorem regionOf_overlay {a : Nat} (h : a < 0x100) : regionOf true a = .boot a := if_pos ⟨rfl, h⟩

theorem regionOf_lowCart {a : Nat} (h : a < 0x100) : regionOf false a = .cart a := by
  unfold regionOf
  rw [if_neg (by simp)]
  exact if_pos (by omega)

/-- The gate of `VRAM` closes its rows (R77). -/
theorem isUngated_vram (s : State) {a : Word} (h : 0x8000 ≤ a.toNat) (h' : a.toNat < 0xA000) :
    isUngated s a = s.ppu.vramAccess := by rw [isUngated, regionOf_vram _ h h']

/-- The gate of `OAM` closes its rows (R77). -/
theorem isUngated_oam (s : State) {a : Word} (h : 0xFE00 ≤ a.toNat) (h' : a.toNat < 0xFEA0) :
    isUngated s a = s.ppu.oamAccess := by rw [isUngated, regionOf_oam _ h h']

/-- The low bytes of the I/O addresses that no row of R100 lists (R101). -/
theorem ioReg_unmapped : ∀ n < 0x80,
    (n = 0x03 ∨ (0x08 ≤ n ∧ n ≤ 0x0E) ∨ n = 0x15 ∨ n = 0x1F ∨ (0x27 ≤ n ∧ n ≤ 0x2F) ∨ (0x4C ≤ n ∧ n ≤ 0x4F) ∨
      0x51 ≤ n) → ioReg n = .unmapped := by decide

/-- An unmapped I/O address reads 0xFF and loses stores (R101). -/
theorem bus_unmapped {a : Word} (v : Byte) (s : State) (h : 0xFF00 ≤ a.toNat) (h' : a.toNat < 0xFF80)
    (hr : ioReg (a.toNat % 0x100) = .unmapped) : busRead s a = 0xFF ∧ busWrite a v s = s := by
  rw [busRead_io s h h', busWrite_io s v h h', hr]
  exact ⟨rfl, rfl⟩

/-- A store under the boot overlay is the store without it (R78). -/
theorem busWrite_overlay {a : Word} (v : Byte) {s : State} (ha : a.toNat < 0x100) (hboot : s.bootEnabled = true) :
    busWrite a v s = { busWrite a v { s with bootEnabled := false } with bootEnabled := true } := by
  rw [busWrite, busWrite, hboot, regionOf_overlay ha, regionOf_lowCart ha, ← hboot]
  rfl

/-- Settles O51: each range of addresses is one row of the map, and the row says what a load and a store there do. -/
theorem gatesOverlayAndHoles : Obligations.GatesOverlayAndHoles := by
  unfold Obligations.GatesOverlayAndHoles
  intro a v s
  refine ⟨fun h h' hgate => bus_gated v ((isUngated_vram s h h').trans hgate),
    fun h h' hgate => bus_gated v ((isUngated_oam s h h').trans hgate), fun h h' => ?tail, fun h => ?unmapped,
    fun ha hboot => ⟨?overlay, busWrite_overlay v ha hboot⟩, fun ha hboot => ?cart,
    busWrite_io s v (by decide) (by decide), busRead_io s (by decide) (by decide)⟩
  case tail =>
    rw [busRead, busWrite, regionOf_oamTail _ h h']
    exact ⟨rfl, rfl⟩
  case unmapped =>
    have hrange : 0xFF00 ≤ a.toNat ∧ a.toNat < 0xFF80 := by bv_omega
    refine bus_unmapped v s hrange.1 hrange.2 (ioReg_unmapped _ (by omega) ?_)
    bv_omega
  case overlay => rw [busRead, hboot, regionOf_overlay ha]; rfl
  case cart =>
    have hrom : a.toNat < 0x8000 := by omega
    have hbank : a.toNat < 0x4000 := by omega
    rw [busRead, hboot, regionOf_lowCart ha, regionRead, cartRead, if_pos hrom, romOffset, if_pos hbank]

end Sys2Proof.Proofs
end

section
/-! Proofs of the statements of 30_encoding.md: the round trips of the encoder and the decoder, the costs, the CPU
control instructions, and the fault of an illegal opcode. -/

namespace Sys2Proof.Proofs

open Sys2Proof Machine Laws

/-! ## Proofs: encoding after decoding -/

/-- `i` is an instruction of the table whose bytes are `l`, and not the lone byte 0xCB (log 16). -/
def EncodesTo (i : Instr) (l : List Byte) : Prop := i.wellFormed = true ∧ i ≠ .prefixCb ∧ encode i = l

theorem opcodeLength_cases : ∀ op : Byte, opcodeLength op = 1 ∨ opcodeLength op = 2 ∨ opcodeLength op = 3 := by decide

/-- The opcodes with one operand byte, and the byte 0xCB (R162). -/
theorem opcodes_of_length_two : ∀ op : Byte, opcodeLength op = 2 →
    op ∈ ([0x06, 0x0E, 0x10, 0x16, 0x18, 0x1E, 0x20, 0x26, 0x28, 0x2E, 0x30, 0x36, 0x38, 0x3E, 0xC6, 0xCB, 0xCE, 0xD6,
      0xDE, 0xE0, 0xE6, 0xE8, 0xEE, 0xF0, 0xF6, 0xF8, 0xFE] : List Byte) := by decide

/-- The opcodes with two operand bytes (R162). -/
theorem opcodes_of_length_three : ∀ op : Byte, opcodeLength op = 3 →
    op ∈ ([0x01, 0x08, 0x11, 0x21, 0x31, 0xC2, 0xC3, 0xC4, 0xCA, 0xCC, 0xCD, 0xD2, 0xD4, 0xDA, 0xDC, 0xEA,
      0xFA] : List Byte) := by decide

/-- Every entry of the CB page has the opcode it is decoded from (R151). -/
theorem decodeCb_encodesTo (op : Byte) : EncodesTo (decodeCb op) [0xCB, op] := by
  have h : ∀ op : Byte, (decodeCb op).wellFormed = true ∧ decodeCb op ≠ .prefixCb ∧ encode (decodeCb op) = [0xCB, op] :=
    by decide
  exact h op

/-- An entry of the base page without operand bytes has the opcode it is decoded from (R150). -/
theorem decodeBase_one_encodesTo {op : Byte} (h : opcodeLength op = 1) : EncodesTo (decodeBase op 0 0) [op] := by
  have hop : ∀ op : Byte, opcodeLength op = 1 → (decodeBase op 0 0).wellFormed = true ∧
      decodeBase op 0 0 ≠ .prefixCb ∧ encode (decodeBase op 0 0) = [op] := by decide
  exact hop op h

/-- An entry of the base page with one operand byte is encoded with that byte (R150, R144). -/
theorem decodeBase_two_encodesTo {op : Byte} (h : opcodeLength op = 2) (hop : op ≠ 0xCB) (b1 : Byte) :
    EncodesTo (decodeBase op b1 0) [op, b1] := by
  have hmem := opcodes_of_length_two op h
  simp only [List.mem_cons, List.not_mem_nil, or_false, hop, false_or] at hmem
  casesm* _ ∨ _ <;> subst op <;> exact ⟨rfl, nofun, rfl⟩

/-- An entry of the base page with two operand bytes is encoded with them, the low one first (R150, R144). -/
theorem decodeBase_three_encodesTo {op : Byte} (h : opcodeLength op = 3) (b1 b2 : Byte) :
    EncodesTo (decodeBase op b1 b2) [op, b1, b2] := by
  have hword : [op, lowByte (wordOf b1 b2), highByte (wordOf b1 b2)] = [op, b1, b2] := by simp
  have hmem := opcodes_of_length_three op h
  simp only [List.mem_cons, List.not_mem_nil, or_false] at hmem
  casesm* _ ∨ _ <;> subst op <;> exact ⟨rfl, nofun, hword⟩

/-- Settles O2: the byte 0xCB selects the CB page; a base-page opcode has no, one or two operand bytes. -/
theorem encodeOfDecodedBytes : Obligations.EncodeOfDecodedBytes := by
  unfold Obligations.EncodeOfDecodedBytes
  intro b0 b1 b2
  obtain ⟨hone, htwo⟩ := decodeBase_operands b0 b1 b2
  show EncodesTo (decodeBytes b0 b1 b2) _
  by_cases hcb : b0 = 0xCB
  · subst hcb
    exact decodeCb_encodesTo b1
  rw [decodeBytes, if_neg hcb]
  rcases opcodeLength_cases b0 with h | h | h
  · rw [hone h, h]
    exact decodeBase_one_encodesTo h
  · rw [htwo h, h]
    exact decodeBase_two_encodesTo h hcb b1
  · rw [h]
    exact decodeBase_three_encodesTo h b1 b2

/-! ## Proofs: decoding after encoding -/

/-- The decoder of a list takes as many bytes as R162 says, and agrees with the machine's decoder on them (R145). -/
theorem decode_take_append (b0 b1 b2 : Byte) (rest : List Byte) :
    decode ([b0, b1, b2].take (opcodeLength b0) ++ rest) = .ok (decodeBytes b0 b1 b2, rest) := by
  obtain ⟨hone, htwo⟩ := decodeBase_operands b0 b1 b2
  by_cases hcb : b0 = 0xCB
  · subst hcb
    rfl
  rw [decodeBytes, if_neg hcb]
  rcases opcodeLength_cases b0 with h | h | h <;> rw [h]
  · rw [hone h]
    exact (if_neg hcb).trans (by rw [h]; rfl)
  · rw [htwo h]
    exact (if_neg hcb).trans (by rw [h]; rfl)
  · exact (if_neg hcb).trans (by rw [h]; rfl)

/-- The eleven opcodes of R146 decode to the illegal instruction, whatever follows them. -/
theorem decodeBytes_illegal {op : Byte} (h : (Instr.illegal op).wellFormed = true) (b1 b2 : Byte) :
    decodeBytes op b1 b2 = .illegal op := by
  have hop : ∀ op : Byte, illegalOpcodes.contains op = true →
      op ≠ 0xCB ∧ opcodeLength op = 1 ∧ decodeBase op 0 0 = .illegal op := by decide
  obtain ⟨hcb, hlen, hdec⟩ := hop op h
  rw [decodeBytes, if_neg hcb, (decodeBase_operands op b1 b2).1 hlen, hdec]

/-- The bytes of an instruction select its entry of the map; bytes that it does not have are not looked at (R150,
R151). -/
theorem exists_decodeBytes {i : Instr} (hwf : i.wellFormed = true) (hi : i ≠ .prefixCb) :
    ∃ b0 b1 b2 l, encode i ++ [0, 0] = b0 :: b1 :: b2 :: l ∧ decodeBytes b0 b1 b2 = i := by
  cases i
  case prefixCb => exact absurd rfl hi
  case illegal op => exact ⟨_, _, _, _, rfl, decodeBytes_illegal hwf 0 0⟩
  case ldBcD16 nn | ldAtA16Sp nn | ldDeD16 nn | ldHlD16 nn | ldSpD16 nn | jpNzA16 nn | jpA16 nn | callNzA16 nn |
      jpZA16 nn | callZA16 nn | callA16 nn | jpNcA16 nn | callNcA16 nn | jpCA16 nn | callCA16 nn | ldAtA16A nn |
      ldAAtA16 nn =>
    refine ⟨_, lowByte nn, highByte nn, _, rfl, ?_⟩
    conv_rhs => rw [← wordOf_bytes nn]
    rfl
  all_goals exact ⟨_, _, _, _, rfl, rfl⟩

/-- Settles O1: an instruction is what three bytes decode to, so its encoding is the first of them, and decodes back. -/
theorem decodeOfEncode : Obligations.DecodeOfEncode := by
  unfold Obligations.DecodeOfEncode
  intro i rest hwf halone
  by_cases hi : i = .prefixCb
  · subst hi
    obtain rfl : rest = [] := halone.resolve_left fun h => h rfl
    rfl
  obtain ⟨b0, b1, b2, -, -, rfl⟩ := exists_decodeBytes hwf hi
  obtain ⟨-, -, hencode⟩ := encodeOfDecodedBytes b0 b1 b2
  rw [hencode, decode_take_append]

/-- Settles O3: the decoder computes each. -/
theorem sampleWordsDecode : Obligations.SampleWordsDecode := by
  unfold Obligations.SampleWordsDecode
  exact ⟨rfl, rfl, rfl, rfl, rfl, rfl, rfl, rfl, rfl, rfl, rfl⟩

/-! ## Proofs: the costs -/

/-- An instruction whose first byte is not 0xCB is an entry of the base page. -/
theorem eq_decodeBase_of_encode {i : Instr} {op : Byte} {rest : List Byte} (hwf : i.wellFormed = true)
    (henc : encode i = op :: rest) (hop : op ≠ 0xCB) : ∃ b1 b2, i = decodeBase op b1 b2 := by
  have hi : i ≠ .prefixCb := by
    rintro rfl
    exact hop (List.cons.inj henc).1.symm
  obtain ⟨b0, b1, b2, l, hbytes, hdecode⟩ := exists_decodeBytes hwf hi
  rw [henc] at hbytes
  obtain ⟨rfl, -⟩ := List.cons.inj hbytes
  rw [decodeBytes, if_neg hop] at hdecode
  exact ⟨b1, b2, hdecode.symm⟩

/-- The opcodes that have a condition are those of the conditional transfers on it (R150). -/
theorem decodeBase_conditional {op : Byte} {cc : Cond} (h : conditionOf op = some cc) (b1 b2 : Byte) :
    decodeBase op b1 b2 = .jrIf cc b1 ∨ decodeBase op b1 b2 = .jpIf cc (wordOf b1 b2) ∨
      decodeBase op b1 b2 = .callIf cc (wordOf b1 b2) ∨ decodeBase op b1 b2 = .retIf cc := by
  have hy : fieldY op < 8 := Nat.mod_lt _ (by decide)
  unfold conditionOf at h
  unfold decodeBase
  dsimp only at h
  generalize fieldX op = x at h ⊢
  generalize fieldY op = y at hy h ⊢
  generalize fieldZ op = z at h ⊢
  split at h
  case h_5 => cases h
  all_goals
    split at h <;> cases h
    interval_cases y <;> simp [decodeX0, decodeX3]

/-- The default cost of a base-page opcode whose condition, if it has one, holds is the table's (R160). -/
theorem baseCost_table {op : Byte} (hop : op ≠ 0xCB) (h : (Instr.illegal op).wellFormed = false) :
    4 * baseCost op true = tableCost op := by
  have htable : ∀ op : Byte, op ≠ 0xCB → illegalOpcodes.contains op = false → 4 * baseCost op true = tableCost op := by
    decide
  exact htable op hop h

theorem instrCost_base {i : Instr} {op : Byte} {rest : List Byte} {s : State} (hs : s.params.costChanges = [])
    (henc : encode i = op :: rest) (hop : op ≠ 0xCB) : instrCost i s = baseCost op (isTaken op false s.regs.f) := by
  rw [instrCost_default hs, costKey_base henc hop]
  rfl

theorem instrCost_cb {i : Instr} {op : Byte} {s : State} (hs : s.params.costChanges = []) (henc : encode i = [0xCB, op]) :
    instrCost i s = cbCost op := by
  rw [instrCost_default hs, costKey_cb henc]
  rfl

/-- The cost of a conditional transfer whose condition fails. -/
theorem instrCost_untaken {i : Instr} {op : Byte} {rest : List Byte} {cc : Cond} {n : Nat}
    {s : State} (hs : s.params.costChanges = []) (hf : condHolds cc s.regs.f = false) (henc : encode i = op :: rest)
    (hop : op ≠ 0xCB) (hcc : conditionOf op = some cc) (hcost : baseCost op false = n) : instrCost i s = n := by
  have htaken : isTaken op false s.regs.f = false := by
    rw [isTaken, if_neg Bool.false_ne_true, hcc]
    exact hf
  rw [instrCost_base hs henc hop, htaken, hcost]

/-- An instruction of the base page costs what the table says, unless its condition fails (R160). -/
theorem instrCost_table {i : Instr} {op : Byte} {rest : List Byte} {s : State} (hs : s.params.costChanges = [])
    (hwf : i.wellFormed = true) (henc : encode i = op :: rest) (hop : op ≠ 0xCB) (hlegal : ∀ b, i ≠ .illegal b)
    (htaken : ∀ cc e nn, condHolds cc s.regs.f = false →
      i ≠ .jrIf cc e ∧ i ≠ .jpIf cc nn ∧ i ≠ .callIf cc nn ∧ i ≠ .retIf cc) : 4 * instrCost i s = tableCost op := by
  obtain ⟨b1, b2, rfl⟩ := eq_decodeBase_of_encode hwf henc hop
  have hlegalOp : (Instr.illegal op).wellFormed = false := by
    by_contra h
    have hdecode := decodeBytes_illegal (Bool.eq_true_of_not_eq_false h) b1 b2
    rw [decodeBytes, if_neg hop] at hdecode
    exact hlegal op hdecode
  have htakenOp : isTaken op false s.regs.f = true := by
    rw [isTaken, if_neg Bool.false_ne_true]
    split
    case h_1 cc hcc =>
      by_contra h
      obtain ⟨hjr, hjp, hcall, hret⟩ := htaken cc b1 (wordOf b1 b2) (Bool.eq_false_of_not_eq_true h)
      rcases decodeBase_conditional hcc b1 b2 with e | e | e | e
      · exact hjr e
      · exact hjp e
      · exact hcall e
      · exact hret e
    case h_2 => rfl
  rw [instrCost_base hs henc hop, htakenOp, baseCost_table hop hlegalOp]

/-- The conditional transfers whose condition fails have the second numbers of the table of R160. -/
theorem instrCost_conditional {cc : Cond} {s : State} (hs : s.params.costChanges = [])
    (hf : condHolds cc s.regs.f = false) (e : Byte) (nn : Word) :
    instrCost (.jrIf cc e) s = 2 ∧ instrCost (.jpIf cc nn) s = 3 ∧ instrCost (.callIf cc nn) s = 3 ∧
      instrCost (.retIf cc) s = 2 := by
  cases cc <;>
    refine ⟨instrCost_untaken hs hf rfl ?_ rfl rfl, instrCost_untaken hs hf rfl ?_ rfl rfl,
      instrCost_untaken hs hf rfl ?_ rfl rfl, instrCost_untaken hs hf rfl ?_ rfl rfl⟩ <;>
    decide

/-- The lone byte 0xCB costs what the entry it selects costs (log 16). -/
theorem instrCost_prefixCb (s : State) : instrCost .prefixCb s = instrCost (decodeCb (busRead s s.regs.pc)) s := by
  obtain ⟨-, -, henc⟩ := decodeCb_encodesTo (busRead s s.regs.pc)
  have hkey : costKey .prefixCb s = (busRead s s.regs.pc, true) := rfl
  rw [instrCost, instrCost, hkey, costKey_cb henc]

theorem encode_rot (o : RotOp) (x : Operand8) :
    ∃ op, encode (.rot o x) = [0xCB, op] ∧ cbCost op = if x = .atHl then 4 else 2 := by
  cases o <;> cases x <;> exact ⟨_, rfl, rfl⟩

theorem encode_bit (k : BitNo) (x : Operand8) :
    ∃ op, encode (.bit k x) = [0xCB, op] ∧ cbCost op = if x = .atHl then 3 else 2 := by
  cases k <;> cases x <;> exact ⟨_, rfl, rfl⟩

theorem encode_res (k : BitNo) (x : Operand8) :
    ∃ op, encode (.res k x) = [0xCB, op] ∧ cbCost op = if x = .atHl then 4 else 2 := by
  cases k <;> cases x <;> exact ⟨_, rfl, rfl⟩

theorem encode_set (k : BitNo) (x : Operand8) :
    ∃ op, encode (.set k x) = [0xCB, op] ∧ cbCost op = if x = .atHl then 4 else 2 := by
  cases k <;> cases x <;> exact ⟨_, rfl, rfl⟩

/-- The cost of an entry of the CB page, in clock cycles. -/
theorem instrCost_cbPage {i : Instr} {x : Operand8} {n : Nat} {s : State} (hs : s.params.costChanges = [])
    (h : ∃ op, encode i = [0xCB, op] ∧ cbCost op = if x = .atHl then n else 2) :
    4 * instrCost i s = if x = .atHl then 4 * n else 8 := by
  obtain ⟨op, henc, hcost⟩ := h
  rw [instrCost_cb hs henc, hcost]
  split <;> rfl

/-- No instruction moves the clock: the step does. -/
theorem execForm_cpuClock {s t : State} (h : ExecForm s t) : t.cpuClock = s.cpuClock := by
  cases h with
  | data hdata =>
    obtain ⟨-, -, -, -, hclock, -⟩ := (dataForm_keeps hdata).1
    exact hclock
  | control => rfl

theorem endEiDelay_cpuClock (w : Bool) (s : State) : (endEiDelay w s).cpuClock = s.cpuClock := by
  unfold endEiDelay
  split <;> rfl

/-- The step of an instruction that does not fault moves the clock by its cost (R352, R362). -/
theorem step_cpuClock {s t : State} (hrun : (ready s).cpuState = .running) (hdue : interruptDue (ready s) = false)
    (hst : step s = .next t) (hn : NotFaulted t) :
    t.cpuClock =
      s.cpuClock + 4 * instrCost (fetchInstr (ready s)) (afterFetch (fetchInstr (ready s)) (ready s)) := by
  obtain ⟨u, hu, hform⟩ := exec_form (fetchInstr (ready s)) (afterFetch (fetchInstr (ready s)) (ready s))
  rw [step_fetch hrun hdue, runInstr, hu] at hst
  obtain rfl := Host.Outcome.next.inj hst
  have hun : NotFaulted u := fun r hr => hn r ((endInstruction_cpu _ _ u).1.trans hr)
  have hfetch : u.cpuClock = s.cpuClock := (execForm_cpuClock hform).trans (ready_cpuClock s)
  rw [endInstruction_notFaulted hun, advanceClock_cpuClock, endEiDelay_cpuClock, hfetch]

/-- Settles O6: the base page by its table, a failed condition, `prefixCb`, the CB page by its families, and the step. -/
theorem instructionCosts : Obligations.InstructionCosts := by
  unfold Obligations.InstructionCosts
  intro s
  dsimp only
  refine ⟨fun hs => ⟨fun i op rest => instrCost_table hs, fun cc e nn hf => ?untaken, ?alone, fun o k x => ?cb⟩,
    fun t => step_cpuClock⟩
  case untaken =>
    obtain ⟨hjr, hjp, hcall, hret⟩ := instrCost_conditional hs hf e nn
    rw [hjr, hjp, hcall, hret]
    exact ⟨rfl, rfl, rfl, rfl⟩
  case alone => rw [instrCost_prefixCb]
  case cb =>
    exact ⟨instrCost_cbPage hs (encode_rot o x), instrCost_cbPage hs (encode_bit k x),
      instrCost_cbPage hs (encode_res k x), instrCost_cbPage hs (encode_set k x)⟩

/-! ## Proofs: CPU control -/

/-- The condition of the halt quirk, bit by bit (R332). -/
theorem haltQuirk_iff (s : State) :
    haltQuirk s = true ↔ (∃ n < 5, (s.ie.getLsbD n && s.iflag.getLsbD n) = true) ∧
      (s.imePending = true ∨ (s.params.haltBugClassic = true ∧ s.ime = false)) := by
  rw [← pendingSources_ne_zero_iff]
  simp [haltQuirk]

/-- The instruction that an opcode of the CB page decodes to does what the page's entry does (R151, R338). -/
theorem exec_decodeCb (op : Byte) (s : State) : exec (decodeCb op) s = .next (cbPage op s) := by
  unfold decodeCb cbPage
  dsimp only
  rcases fieldX op with _ | _ | _ | x
  · exact exec_rot _ _ s
  · exact exec_bit _ _ s
  · exact exec_res _ _ s
  · exact exec_set _ _ s

/-- Settles O27: HALT by the condition of its quirk, `prefixCb` by the CB page; the others by computation. -/
theorem cpuControl : Obligations.CpuControl := by
  unfold Obligations.CpuControl
  intro pad s
  dsimp only
  rw [← haltQuirk_iff]
  have hhalt : exec .halt s = .next (haltCpu s) := rfl
  refine ⟨rfl, rfl, rfl, rfl, fun h => ?quirk, fun h => ?sleep, _, rfl, exec_decodeCb _ _⟩
  case quirk => rw [hhalt, haltCpu, if_pos h]
  case sleep => rw [hhalt, haltCpu, if_neg h]

/-! ## Proofs: the fault of an illegal opcode -/

/-- A machine that executes an illegal opcode ends the step with the fault, `pc` where the fetch left it (R340, R371). -/
theorem runInstr_illegal (op : Byte) (s : State) :
    runInstr (.illegal op) s =
      .next (raiseFatal (.illegalOpcode op (operandAddress s - 1)) (consumeOpcode s)) := by
  have hpc : operandAddress s + BitVec.ofNat 16 ((encode (.illegal op)).length - 1) = operandAddress s :=
    BitVec.add_zero _
  have hfetch : afterFetch (.illegal op) s = consumeOpcode s := by
    rw [afterFetch_eq, hpc]
    rfl
  have hexec : exec (.illegal op) (afterFetch (.illegal op) s) =
      .next (raiseFatal (.illegalOpcode op (operandAddress s - 1)) (consumeOpcode s)) := by
    rw [hfetch]
    rfl
  rw [runInstr, hexec]
  dsimp only
  rw [endInstruction_faulted (t := raiseFatal _ _) rfl]

/-- The step of a machine that fetches an illegal opcode (R146, R352). -/
theorem step_illegal {op : Byte} {s : State} (hwf : (Instr.illegal op).wellFormed = true)
    (hrun : (ready s).cpuState = .running) (hdue : interruptDue (ready s) = false)
    (hread : busRead (ready s) (ready s).regs.pc = op) :
    step s = .next (raiseFatal (.illegalOpcode op (operandAddress (ready s) - 1)) (consumeOpcode (ready s))) := by
  have hfetch : fetchInstr (ready s) = .illegal op := by
    rw [fetchInstr, hread]
    exact decodeBytes_illegal hwf _ _
  rw [step_fetch hrun hdue, hfetch, runInstr_illegal]

/-- Settles O28: `step_illegal`, with the operand address after the opcode byte, or on it under the halt quirk (R30). -/
theorem illegalOpcodeFaults : Obligations.IllegalOpcodeFaults := by
  unfold Obligations.IllegalOpcodeFaults
  intro op s hwf
  refine ⟨rfl, fun hrun hdue hread => ?_⟩
  rw [step_illegal hwf hrun hdue hread, ready]
  generalize wake (runDma (takeHostInput s)) = u
  refine ⟨fun hbug => ?plain, fun hbug => ?quirk⟩
  case plain =>
    have hnext : operandAddress u = u.regs.pc + 1 := by rw [operandAddress, hbug, if_neg Bool.false_ne_true]
    rw [consumeOpcode, hnext, BitVec.add_sub_cancel, ← hbug]
    rfl
  case quirk =>
    have hsame : operandAddress u = u.regs.pc := if_pos hbug
    rw [consumeOpcode, hsame]
    rfl

end Sys2Proof.Proofs
end

section
/-! Proofs of the statements of 40_load8.md: the loads of `A` from memory and its stores to memory, and the step of
`HL` after an access. -/

namespace Sys2Proof.Proofs

open Sys2Proof Machine Laws

/-! ## Proofs: the loads and stores of `A` -/

/-! ### Frames of the 8-bit registers -/

/-- The changes of two effects, one after the other. -/
theorem keeps8_trans {xs ys : List Operand8} {s t u : State} (h : Keeps8 xs s t) (g : Keeps8 ys t u) :
    Keeps8 (xs ++ ys) s u := by
  intro o hmem hother
  obtain ⟨hxs, hys⟩ := not_or.1 (mt List.mem_append.2 hother)
  exact (g o hmem hys).trans (h o hmem hxs)

/-- Only the byte at `HL` depends on more than the register file. -/
theorem keeps8_of_regs {s t : State} (h : t.regs = s.regs) : Keeps8 [] s t := by
  intro o hmem _
  cases o
  case atHl => exact absurd rfl hmem
  all_goals simp only [getOperand8, h]

/-- A write of `HL` changes no 8-bit register but `H` and `L`. -/
theorem setHl_keeps8 (v : Word) (s : State) : Keeps8 [.h, .l] s (setHl v s) := by
  intro o hmem hother
  cases o
  case atHl => exact absurd rfl hmem
  case h => exact absurd (by simp) hother
  case l => exact absurd (by simp) hother
  all_goals rfl

/-! ### One access -/

/-- A load of `A`, with its frame. -/
theorem loadAFrom_result (addr : Word) (s : State) :
    RegisterResult .a (busRead s addr) s (loadAFrom addr s) ∧ (loadAFrom addr s).regs.f = s.regs.f :=
  setOperand8_result (dst := .a) (by decide) _ s

/-- A store of `A`, with its frame. -/
theorem storeATo_result (addr : Word) (s : State) : StoreResult addr s.regs.a s (storeATo addr s) :=
  busWrite_result addr _ s

/-! ### An access, then a new `HL` -/

/-- A load of `A` and then a write of `HL`, with the frame of both. -/
theorem setHl_loadAFrom_result (v addr : Word) (s : State) :
    let t := setHl v (loadAFrom addr s)
    OnlyRegs s t ∧ t.regs.a = busRead s addr ∧ t.regs.hl = v ∧ Keeps8 [.a, .h, .l] s t ∧ t.regs.f = s.regs.f ∧
      KeepsPointers s t := by
  obtain ⟨⟨-, -, hkept, -⟩, -⟩ := loadAFrom_result addr s
  exact ⟨rfl, rfl, setHl_hl v _, keeps8_trans hkept (setHl_keeps8 v _), rfl, rfl, rfl⟩

/-- A store of `A` and then a write of `HL`, with the frame of both. -/
theorem setHl_storeATo_result (v addr : Word) (s : State) :
    let u := storeATo addr s
    let t := setHl v u
    StoreResult addr s.regs.a s u ∧ OnlyRegs u t ∧ t.regs.hl = v ∧ Keeps8 [.h, .l] s t ∧ t.regs.f = s.regs.f ∧
      KeepsPointers s t := by
  have hregs : (storeATo addr s).regs = s.regs := busWrite_regs addr _ s
  have hflags : (storeATo addr s).regs.f = s.regs.f := congrArg Regs.f hregs
  have hpointers : KeepsPointers s (storeATo addr s) := ⟨congrArg Regs.sp hregs, congrArg Regs.pc hregs⟩
  exact ⟨storeATo_result addr s, rfl, setHl_hl v _, keeps8_trans (keeps8_of_regs hregs) (setHl_keeps8 v _),
    hflags, hpointers⟩

/-- The store leaves `HL` alone, so the step of `HL` is from its value before the access (R196, R198). -/
theorem storeAVia_hl (s : State) :
    storeAVia .hlInc s = setHl (s.regs.hl + 1) (storeATo s.regs.hl s) ∧
      storeAVia .hlDec s = setHl (s.regs.hl - 1) (storeATo s.regs.hl s) := by
  simp only [storeAVia, storeATo, stepPointer, pointerAddress, busWrite_regs, and_self]

/-- Settles O13: each form is `loadAFrom` or `storeATo` at its address, and the `HL` forms then write `HL`. -/
theorem loadsAndStoresOfA : Obligations.LoadsAndStoresOfA := by
  unfold Obligations.LoadsAndStoresOfA
  intro n nn s
  obtain ⟨hinc, hdec⟩ := storeAVia_hl s
  rw [← highPage_eq n, ← highPage_eq s.regs.c]
  refine ⟨?loadBc, ?loadDe, ?loadA16, ?loadA8, ?loadC, ?loadInc, ?loadDec,
    ?storeBc, ?storeDe, ?storeA16, ?storeA8, ?storeC, ?storeInc, ?storeDec⟩
  case loadBc => exact ⟨_, exec_loadA .bc s, loadAFrom_result _ s⟩
  case loadDe => exact ⟨_, exec_loadA .de s, loadAFrom_result _ s⟩
  case loadA16 => exact ⟨_, rfl, loadAFrom_result nn s⟩
  case loadA8 => exact ⟨_, rfl, loadAFrom_result (highPage n) s⟩
  case loadC => exact ⟨_, rfl, loadAFrom_result (highPage s.regs.c) s⟩
  case loadInc => exact ⟨_, exec_loadA .hlInc s, setHl_loadAFrom_result _ _ s⟩
  case loadDec => exact ⟨_, exec_loadA .hlDec s, setHl_loadAFrom_result _ _ s⟩
  case storeBc => exact ⟨_, exec_storeA .bc s, storeATo_result _ s⟩
  case storeDe => exact ⟨_, exec_storeA .de s, storeATo_result _ s⟩
  case storeA16 => exact ⟨_, rfl, storeATo_result nn s⟩
  case storeA8 => exact ⟨_, rfl, storeATo_result (highPage n) s⟩
  case storeC => exact ⟨_, rfl, storeATo_result (highPage s.regs.c) s⟩
  case storeInc => exact ⟨_, _, (exec_storeA .hlInc s).trans (congrArg _ hinc), setHl_storeATo_result _ _ s⟩
  case storeDec => exact ⟨_, _, (exec_storeA .hlDec s).trans (congrArg _ hdec), setHl_storeATo_result _ _ s⟩

end Sys2Proof.Proofs
end

section
/-! Proofs of the statements of 42_alu8.md: the sums and differences of `A`, the bitwise operations, INC and DEC of a
byte, DAA and the complements, and decimal arithmetic. -/

namespace Sys2Proof.Proofs

open Sys2Proof Machine Laws

/-! ## Proofs: 8-bit arithmetic and logic -/

/-! ### What the shared operations do -/

/-- No 8-bit operand depends on the flags. -/
theorem getOperand8_setFlags (o : Operand8) (f : Flags) (s : State) :
    getOperand8 o (setFlags f s) = getOperand8 o s := by
  cases o <;> rfl

/-- New flags beside a value written to a register leave the frame of the write as it is. -/
theorem setFlags_registerResult {dst : Operand8} {v : Byte} {s t : State} (f : Flags)
    (h : RegisterResult dst v s t) : RegisterResult dst v s (setFlags f t) := by
  obtain ⟨honly, hvalue, hkept, hpointers⟩ := h
  refine ⟨?only, (getOperand8_setFlags dst f t).trans hvalue, fun o hmem hother => ?kept, hpointers⟩
  case only =>
    rw [OnlyRegs] at honly
    rw [OnlyRegs, setFlags_eq, honly]
    rfl
  case kept => rw [getOperand8_setFlags, hkept o hmem hother]

/-- A register replaced by a function of itself and the flags, with the frame. -/
theorem modify8_register {o : Operand8} (h : o ≠ .atHl) (f : Byte → Flags → Byte × Flags) (s : State) :
    RegisterResult o (f (getOperand8 o s) s.regs.f).1 s (modify8 f o s) ∧
      (modify8 f o s).regs.f = (f (getOperand8 o s) s.regs.f).2 :=
  ⟨setFlags_registerResult _ (setOperand8_result h _ s).1, rfl⟩

/-- The byte at `HL` replaced: one store of the new byte, then the flags (R250). -/
theorem modify8_atHl (f : Byte → Flags → Byte × Flags) (s : State) :
    StoreResult s.regs.hl (f (getOperand8 .atHl s) s.regs.f).1 s
        (busWrite s.regs.hl (f (getOperand8 .atHl s) s.regs.f).1 s) ∧
      FlagsResult (f (getOperand8 .atHl s) s.regs.f).2 (busWrite s.regs.hl (f (getOperand8 .atHl s) s.regs.f).1 s)
        (modify8 f .atHl s) :=
  ⟨busWrite_result _ _ s, rfl⟩

/-- `A` and the flags replaced, with the frame. -/
theorem modifyA_result (f : Byte → Flags → Byte × Flags) (s : State) :
    AccResult (f s.regs.a s.regs.f).1.toNat (f s.regs.a s.regs.f).2 s (modifyA f s) := by
  obtain ⟨⟨honly, hvalue, hkept, hpointers⟩, hflags⟩ := modify8_register (o := .a) (by decide) f s
  exact ⟨honly, congrArg BitVec.toNat hvalue, hflags, hkept, hpointers⟩

/-- An operation of the `alu` table on `A` and `x`, with its frame (R240). -/
theorem aluWith_result {o : AluOp} {x : Byte} {s : State} {r : Byte × Flags}
    (h : aluResult o s.regs.a x s.regs.f = r) : AccResult r.1.toNat r.2 s (aluWith o x s) := by
  rw [← h]
  exact modifyA_result (fun a f => aluResult o a x f) s

/-! ### Sums and differences as numbers -/

/-- The zero flag of a byte whose number is known. -/
theorem decide_eq_zero_of_toNat {v : Byte} {n : Nat} (h : v.toNat = n) : decide (v = 0) = decide (n = 0) := by
  subst h
  exact decide_eq_decide.2 BitVec.toNat_inj.symm

theorem addWith_toNat (cin : Bool) (a x : Byte) :
    (addWith cin a x).1.toNat = (a.toNat + x.toNat + cin.toNat) % 256 := BitVec.toNat_ofNat _ _

theorem addWith_flags (cin : Bool) (a x : Byte) :
    (addWith cin a x).2 =
      { z := decide ((a.toNat + x.toNat + cin.toNat) % 256 = 0), n := false
        h := decide (15 < a.toNat % 16 + x.toNat % 16 + cin.toNat)
        c := decide (255 < a.toNat + x.toNat + cin.toNat) } := by
  rw [← decide_eq_zero_of_toNat (addWith_toNat cin a x)]
  rfl

theorem subWith_toNat (cin : Bool) (a x : Byte) :
    (subWith cin a x).1.toNat = (a.toNat + 512 - x.toNat - cin.toNat) % 256 := by
  have ha := a.isLt
  have hx := x.isLt
  have hc := cin.toNat_le
  unfold subWith
  dsimp only
  rw [BitVec.toNat_sub, BitVec.toNat_sub, BitVec.toNat_ofNat]
  omega

theorem subWith_flags (cin : Bool) (a x : Byte) :
    (subWith cin a x).2 =
      { z := decide ((a.toNat + 512 - x.toNat - cin.toNat) % 256 = 0), n := true
        h := decide (a.toNat % 16 < x.toNat % 16 + cin.toNat), c := decide (a.toNat < x.toNat + cin.toNat) } := by
  rw [← decide_eq_zero_of_toNat (subWith_toNat cin a x)]
  rfl

/-- Settles O16: both are `addWith`, ADD with carry-in 0. -/
theorem addAndAdc : Obligations.AddAndAdc := by
  unfold Obligations.AddAndAdc
  intro x s i j hform
  obtain ⟨hi, hj⟩ : exec i s = .next (aluWith .add x s) ∧ exec j s = .next (aluWith .adc x s) := by
    rcases hform with ⟨rfl, rfl⟩ | ⟨src, rfl, rfl, rfl⟩
    · exact ⟨exec_aluImm .add x s, exec_aluImm .adc x s⟩
    · exact ⟨exec_alu .add src s, exec_alu .adc src s⟩
  have hadd := aluWith_result (o := .add) (x := x) (s := s) (r := addWith false s.regs.a x) rfl
  have hadc := aluWith_result (o := .adc) (x := x) (s := s) (r := addWith s.regs.f.c s.regs.a x) rfl
  rw [addWith_toNat, addWith_flags] at hadd hadc
  exact ⟨⟨_, hi, hadd⟩, ⟨_, hj, hadc⟩⟩

/-- Settles O17: all three are `subWith`, SUB and CP with borrow-in 0, and CP writes the old `A` back. -/
theorem subSbcAndCp : Obligations.SubSbcAndCp := by
  unfold Obligations.SubSbcAndCp
  intro x s i j k hform
  obtain ⟨hi, hj, hk⟩ : exec i s = .next (aluWith .sub x s) ∧ exec j s = .next (aluWith .sbc x s) ∧
      exec k s = .next (aluWith .cp x s) := by
    rcases hform with ⟨rfl, rfl, rfl⟩ | ⟨src, rfl, rfl, rfl, rfl⟩
    · exact ⟨exec_aluImm .sub x s, exec_aluImm .sbc x s, exec_aluImm .cp x s⟩
    · exact ⟨exec_alu .sub src s, exec_alu .sbc src s, exec_alu .cp src s⟩
  have hborrow : (s.regs.a.toNat + 512 - x.toNat - false.toNat) % 256 = (s.regs.a.toNat + 256 - x.toNat) % 256 := by
    have hx := x.isLt
    rw [Bool.toNat_false]
    omega
  have hsub := aluWith_result (o := .sub) (x := x) (s := s) (r := subWith false s.regs.a x) rfl
  have hsbc := aluWith_result (o := .sbc) (x := x) (s := s) (r := subWith s.regs.f.c s.regs.a x) rfl
  have hcp : FlagsResult (subWith false s.regs.a x).2 s (aluWith .cp x s) := rfl
  rw [subWith_toNat, subWith_flags] at hsub hsbc
  rw [hborrow] at hsub
  rw [subWith_flags, hborrow] at hcp
  exact ⟨⟨_, hi, hsub⟩, ⟨_, hj, hsbc⟩, ⟨_, hk, hcp⟩⟩

/-- Settles O18: the result is the bitwise operation on the bytes, which the library gives bit by bit. -/
theorem bitwiseLogic : Obligations.BitwiseLogic := by
  unfold Obligations.BitwiseLogic
  intro x s i j k hform
  obtain ⟨hi, hj, hk⟩ : exec i s = .next (aluWith .and x s) ∧ exec j s = .next (aluWith .xor x s) ∧
      exec k s = .next (aluWith .or x s) := by
    rcases hform with ⟨rfl, rfl, rfl⟩ | ⟨src, rfl, rfl, rfl, rfl⟩
    · exact ⟨exec_aluImm .and x s, exec_aluImm .xor x s, exec_aluImm .or x s⟩
    · exact ⟨exec_alu .and src s, exec_alu .xor src s, exec_alu .or src s⟩
  refine ⟨⟨_, hi, aluWith_result rfl, fun b _ => ?and⟩, ⟨_, hj, aluWith_result rfl, fun b _ => ?xor⟩,
    ⟨_, hk, aluWith_result rfl, fun b _ => ?or⟩⟩
  case and => exact BitVec.getLsbD_and
  case xor => exact BitVec.getLsbD_xor.trans (congrFun₂ Bool.bne_eq_xor _ _).symm
  case or => exact BitVec.getLsbD_or

/-! ### INC and DEC of a byte -/

theorem incByte_eq (v : Byte) (f : Flags) :
    incByte v f =
      (BitVec.ofNat 8 (v.toNat + 1),
        { z := decide ((v.toNat + 1) % 256 = 0), n := false, h := decide (v.toNat % 16 = 15), c := f.c }) := by
  have hr : v + 1 = BitVec.ofNat 8 (v.toNat + 1) := by bv_omega
  rw [incByte, hr, ← decide_eq_zero_of_toNat (BitVec.toNat_ofNat (v.toNat + 1) 8)]
  rfl

theorem decByte_eq (v : Byte) (f : Flags) :
    decByte v f =
      (BitVec.ofNat 8 (v.toNat + 255),
        { z := decide ((v.toNat + 255) % 256 = 0), n := true, h := decide (v.toNat % 16 = 0), c := f.c }) := by
  have hr : v - 1 = BitVec.ofNat 8 (v.toNat + 255) := by bv_omega
  rw [decByte, hr, ← decide_eq_zero_of_toNat (BitVec.toNat_ofNat (v.toNat + 255) 8)]
  rfl

/-- Settles O19: `modify8` on a register or at `HL`, with the byte and the flags as numbers. -/
theorem incrementAndDecrementByte : Obligations.IncrementAndDecrementByte := by
  unfold Obligations.IncrementAndDecrementByte
  intro x s
  refine ⟨fun hx => ?register, fun hx => ?memory⟩
  case register =>
    have hinc := modify8_register hx incByte s
    have hdec := modify8_register hx decByte s
    rw [incByte_eq] at hinc
    rw [decByte_eq] at hdec
    exact ⟨⟨_, exec_inc8 x s, hinc⟩, ⟨_, exec_dec8 x s, hdec⟩⟩
  case memory =>
    subst hx
    have hinc := modify8_atHl incByte s
    have hdec := modify8_atHl decByte s
    rw [incByte_eq] at hinc
    rw [decByte_eq] at hdec
    exact ⟨⟨_, _, exec_inc8 .atHl s, hinc⟩, ⟨_, _, exec_dec8 .atHl s, hdec⟩⟩

/-! ### DAA and the complements -/

/-- The adjustment of the low digit, of `A` as a number (R253). -/
def daaLow (a : Nat) (f : Flags) : Nat := if f.h = true ∨ (f.n = false ∧ 9 < a % 16) then 6 else 0

/-- The adjustment of the high digit (R253). -/
def daaHigh (a : Nat) (f : Flags) : Nat := if f.c = true ∨ (f.n = false ∧ 0x99 < a) then 0x60 else 0

/-- The adjusted `A` as a number: the adjustments are added after an addition, else taken away (R253). -/
def daaValue (a : Nat) (f : Flags) : Nat :=
  if f.n then (a + 256 - daaLow a f - daaHigh a f) % 256 else (a + daaLow a f + daaHigh a f) % 256

/-- The two adjustments share no bit, so their union is their sum. -/
theorem daaAdjustment_toNat (low high : Bool) :
    ((if low then 0x06 else 0 : Byte) ||| (if high then 0x60 else 0)).toNat =
      (if low then 6 else 0) + if high then 0x60 else 0 := by
  cases low <;> cases high <;> rfl

theorem daaAdd_toNat (a : Byte) {f : Flags} (h : f.n = false) : (daaAdd a f).1.toNat = daaValue a.toNat f := by
  rw [daaAdd, BitVec.toNat_add, daaAdjustment_toNat, daaValue, daaLow, daaHigh, h]
  simp [lowNibble, Nat.add_assoc]

theorem daaSub_toNat (a : Byte) {f : Flags} (h : f.n = true) : (daaSub a f).1.toNat = daaValue a.toNat f := by
  have ha := a.isLt
  have hsub := daaAdjustment_toNat f.h f.c
  rw [daaSub, BitVec.toNat_sub, hsub, daaValue, daaLow, daaHigh, h]
  cases f.h <;> cases f.c <;> simp <;> omega

/-- The result of DAA as a number. -/
theorem daaResult_toNat (a : Byte) (f : Flags) : (daaResult a f).1.toNat = daaValue a.toNat f := by
  rw [daaResult]
  cases h : f.n
  case false => exact daaAdd_toNat a h
  case true => exact daaSub_toNat a h

theorem daaResult_flags (a : Byte) (f : Flags) :
    (daaResult a f).2 =
      { z := decide (daaValue a.toNat f = 0), n := f.n, h := false
        c := f.c || (!f.n && decide (0x99 < a.toNat)) } := by
  rw [← decide_eq_zero_of_toNat (daaResult_toNat a f), daaResult]
  cases h : f.n
  case false => rfl
  case true => simp [daaSub]

/-- Settles O20: DAA as numbers by the lemmas above; the others are their definitions. -/
theorem adjustAndComplement : Obligations.AdjustAndComplement := by
  unfold Obligations.AdjustAndComplement
  intro s
  have hdaa := modifyA_result daaResult s
  have hcpl := modifyA_result cplResult s
  rw [daaResult_toNat, daaResult_flags] at hdaa
  rw [cplResult, BitVec.toNat_not] at hcpl
  exact ⟨⟨_, rfl, hdaa⟩, ⟨_, rfl, hcpl⟩, ⟨_, rfl, rfl⟩, ⟨_, rfl, rfl⟩⟩

/-! ### Decimal arithmetic -/

section
variable {t1 u1 t2 u2 c n : Nat} (ht1 : t1 ≤ 9) (hu1 : u1 ≤ 9) (ht2 : t2 ≤ 9) (hu2 : u2 ≤ 9) (hc : c ≤ 1)
include ht1 hu1 ht2 hu2 hc

/-- Schoolbook addition: the digits of a sum, each carry taken from its digit and added to the next. -/
theorem decimalSum_digits (hn : 10 * t1 + u1 + (10 * t2 + u2) + c = n) :
    n % 10 = u1 + u2 + c - (if 9 < u1 + u2 + c then 10 else 0) ∧
      n / 10 % 10 = t1 + t2 + (if 9 < u1 + u2 + c then 1 else 0) - (if 100 ≤ n then 10 else 0) := by
  split <;> split <;> omega

/-- Schoolbook subtraction: the digits of a difference, each borrow added to its digit and taken from the next. -/
theorem decimalDifference_digits (hn : 10 * t1 + u1 + 100 - (10 * t2 + u2) - c = n) :
    n % 10 = u1 + (if u1 < u2 + c then 10 else 0) - u2 - c ∧
      n / 10 % 10 = t1 + (if 10 * t1 + u1 < 10 * t2 + u2 + c then 10 else 0) - t2 -
        (if u1 < u2 + c then 1 else 0) := by
  split <;> split <;> omega

omit ht1 ht2 in
/-- After the addition of packed decimals the two conditions of DAA are the carries of the decimal digits. -/
theorem daaConditions_sum (hn : 10 * t1 + u1 + (10 * t2 + u2) + c = n) :
    let sum := 16 * t1 + u1 + (16 * t2 + u2) + c
    ((15 < (16 * t1 + u1) % 16 + (16 * t2 + u2) % 16 + c ∨ 9 < sum % 256 % 16) ↔ 9 < u1 + u2 + c) ∧
      ((255 < sum ∨ 0x99 < sum % 256) ↔ 100 ≤ n) := by
  dsimp only
  generalize hsum : 16 * t1 + u1 + (16 * t2 + u2) + c = sum
  have hwrapped : (255 < sum ∨ 0x99 < sum % 256) ↔ 0x99 < sum := by omega
  exact ⟨by omega, hwrapped.trans (by omega)⟩

end

section
variable {t1 u1 t2 u2 : Nat} {a x : Byte} (ht1 : t1 ≤ 9) (hu1 : u1 ≤ 9) (ht2 : t2 ≤ 9) (hu2 : u2 ≤ 9)
  (ha : a.toNat = 16 * t1 + u1) (hx : x.toNat = 16 * t2 + u2) (cin : Bool)
include ht1 hu1 ht2 hu2 ha hx

/-- DAA after an addition: each adjustment is due exactly when its decimal digit carries. -/
theorem daaResult_addWith :
    let n := 10 * t1 + u1 + (10 * t2 + u2) + cin.toNat
    let r := daaResult (addWith cin a x).1 (addWith cin a x).2
    r.1.toNat = 16 * (n / 10 % 10) + n % 10 ∧ r.2.c = decide (100 ≤ n) := by
  dsimp only
  rw [daaResult_toNat, daaResult_flags, addWith_toNat, addWith_flags, ha, hx]
  have hc := cin.toNat_le
  generalize cin.toNat = c at hc
  generalize hn : 10 * t1 + u1 + (10 * t2 + u2) + c = n
  obtain ⟨hunits, htens⟩ := decimalSum_digits ht1 hu1 ht2 hu2 hc hn
  obtain ⟨hlow, hhigh⟩ := daaConditions_sum hu1 hu2 hc hn
  constructor
  · simp only [daaValue, daaLow, daaHigh, decide_eq_true_eq, true_and, Bool.false_eq_true, if_false, hlow, hhigh]
    rw [hunits, htens]
    split <;> split <;> omega
  · simp [← Bool.decide_or, hhigh]

/-- DAA after a subtraction: each adjustment is due exactly when its decimal digit borrows. -/
theorem daaResult_subWith :
    let n := 10 * t1 + u1 + 100 - (10 * t2 + u2) - cin.toNat
    let r := daaResult (subWith cin a x).1 (subWith cin a x).2
    r.1.toNat = 16 * (n / 10 % 10) + n % 10 ∧ r.2.c = decide (10 * t1 + u1 < 10 * t2 + u2 + cin.toNat) := by
  dsimp only
  rw [daaResult_toNat, daaResult_flags, subWith_toNat, subWith_flags, ha, hx]
  have hc := cin.toNat_le
  generalize cin.toNat = c at hc
  generalize hn : 10 * t1 + u1 + 100 - (10 * t2 + u2) - c = n
  obtain ⟨hunits, htens⟩ := decimalDifference_digits ht1 hu1 ht2 hu2 hc hn
  have hlow : (16 * t1 + u1) % 16 < (16 * t2 + u2) % 16 + c ↔ u1 < u2 + c := by omega
  have hhigh : 16 * t1 + u1 < 16 * t2 + u2 + c ↔ 10 * t1 + u1 < 10 * t2 + u2 + c := by omega
  constructor
  · simp only [daaValue, daaLow, daaHigh, decide_eq_true_eq, Bool.true_eq_false, false_and, or_false, if_true, hlow,
      hhigh]
    rw [hunits, htens]
    split <;> split <;> omega
  · simp [hhigh]

end

/-- The byte of two decimal digits, as a number. -/
theorem packedDecimal_toNat {t u : Nat} (ht : t ≤ 9) (hu : u ≤ 9) :
    (BitVec.ofNat 8 (16 * t + u)).toNat = 16 * t + u := Nat.mod_eq_of_lt (by omega)

/-- Settles O21: DAA after `addWith` and after `subWith`, each with and without the flag `C` coming in. -/
theorem decimalArithmetic : Obligations.DecimalArithmetic := by
  unfold Obligations.DecimalArithmetic
  intro t1 u1 t2 u2 s add adc sub sbc ht1 hu1 ht2 hu2 ha x hform
  have ha' : s.regs.a.toNat = 16 * t1 + u1 := ha ▸ packedDecimal_toNat ht1 hu1
  have hx : x.toNat = 16 * t2 + u2 := packedDecimal_toNat ht2 hu2
  obtain ⟨hadd, hadc, hsub, hsbc⟩ : exec add s = .next (aluWith .add x s) ∧ exec adc s = .next (aluWith .adc x s) ∧
      exec sub s = .next (aluWith .sub x s) ∧ exec sbc s = .next (aluWith .sbc x s) := by
    rcases hform with ⟨rfl, rfl, rfl, rfl⟩ | ⟨src, hsrc, rfl, rfl, rfl, rfl⟩
    · exact ⟨exec_aluImm .add x s, exec_aluImm .adc x s, exec_aluImm .sub x s, exec_aluImm .sbc x s⟩
    · rw [← hsrc]
      exact ⟨exec_alu .add src s, exec_alu .adc src s, exec_alu .sub src s, exec_alu .sbc src s⟩
  have hsum := daaResult_addWith ht1 hu1 ht2 hu2 ha' hx
  have hdifference := daaResult_subWith ht1 hu1 ht2 hu2 ha' hx
  exact ⟨⟨_, _, hadd, rfl, hsum false⟩, ⟨_, _, hadc, rfl, hsum s.regs.f.c⟩, ⟨_, _, hsub, rfl, hdifference false⟩,
    ⟨_, _, hsbc, rfl, hdifference s.regs.f.c⟩⟩

end Sys2Proof.Proofs
end

section
/-! Proofs of the statements of 43_alu16.md: the sum into `HL`, and INC and DEC of a pair. -/

namespace Sys2Proof.Proofs

open Sys2Proof Machine Laws

/-! ## Proofs: 16-bit arithmetic -/

/-- `ADD HL,rr`: the sum, wrapped, the carries out of bits 11 and 15, and the frame (R271). -/
theorem addHlPair_result (p : Pair) (s : State) :
    let hl := s.regs.hl.toNat
    let v := (getPair p s).toNat
    let t := addHlPair p s
    OnlyRegs s t ∧ t.regs.hl.toNat = (hl + v) % 65536 ∧
      t.regs.f = { z := s.regs.f.z, n := false, h := decide (0xFFF < hl % 4096 + v % 4096)
                   c := decide (0xFFFF < hl + v) } ∧
      Keeps8 [.h, .l] s t ∧ KeepsPointers s t := by
  refine ⟨rfl, ?sum, rfl, fun o hmem hother => ?kept, rfl, rfl⟩
  case sum =>
    have hhl : (addHlPair p s).regs.hl = s.regs.hl + getPair p s := setHl_hl _ s
    rw [hhl, BitVec.toNat_add]
  case kept => exact (getOperand8_setFlags o _ _).trans (setHl_keeps8 _ s o hmem hother)

/-- A pair written with a word whose number is known, with the frame: no flag changes (R273, R274). -/
theorem setPair_result (p : Pair) {v : Word} {n : Nat} (s : State) (hv : v.toNat = n) :
    let t := setPair p v s
    OnlyRegs s t ∧ (getPair p t).toNat = n ∧ t.regs.a = s.regs.a ∧ t.regs.f = s.regs.f ∧ t.regs.pc = s.regs.pc ∧
      ∀ q, q ≠ p → getPair q t = getPair q s := by
  obtain ⟨ha, hflags, hpc⟩ := setPair_keeps p v s
  exact ⟨setPair_onlyRegs p v s, (congrArg BitVec.toNat (getPair_setPair p v s)).trans hv, ha, hflags, hpc,
    fun q hq => getPair_setPair_other hq v s⟩

/-- Settles O22: ADD is `addHlPair_result`; INC and DEC write the pair with its value plus 1 or plus 65535, modulo
65536. -/
theorem pairArithmetic : Obligations.PairArithmetic := by
  unfold Obligations.PairArithmetic
  intro p s
  have hinc : (getPair p s + 1).toNat = ((getPair p s).toNat + 1) % 65536 := BitVec.toNat_add _ _
  have hdec : (getPair p s - 1).toNat = ((getPair p s).toNat + 65535) % 65536 := by
    rw [BitVec.toNat_sub, Nat.add_comm]
    rfl
  exact ⟨⟨_, exec_addHl p s, addHlPair_result p s⟩, ⟨_, exec_incPair p s, setPair_result p s hinc⟩,
    ⟨_, exec_decPair p s, setPair_result p s hdec⟩⟩

end Sys2Proof.Proofs
end

section
/-! Proofs of the statements of 44_rotate_shift_bit.md: the rotates, shifts and SWAP bit by bit, and BIT, RES and SET. -/

namespace Sys2Proof.Proofs

open Sys2Proof Machine Laws

/-! ## Proofs: rotates, shifts and bits -/

/-! ### Bytes, bit by bit -/

theorem bitAt_bit (n : Nat) (b : Bool) {i : Nat} (h : i < 8) : (bitAt n b).getLsbD i = (b && decide (i = n)) := by
  cases b
  case false => exact BitVec.getLsbD_zero
  case true =>
    rw [bitAt, if_pos rfl, BitVec.getLsbD_ofNat, Nat.testBit_two_pow]
    simp [h, eq_comm]

/-- One place to the left, `b` entering at bit 0. -/
theorem shiftLeft_or_bit (v : Byte) (b : Bool) {i : Nat} (h : i < 8) :
    ((v <<< 1) ||| bitAt 0 b).getLsbD i = if i = 0 then b else v.getLsbD (i - 1) := by
  rw [BitVec.getLsbD_or, BitVec.getLsbD_shiftLeft, bitAt_bit 0 b h]
  by_cases hi : i = 0 <;> simp [hi, h]

/-- One place to the right, `b` entering at bit 7. -/
theorem shiftRight_or_bit (v : Byte) (b : Bool) {i : Nat} (h : i < 8) :
    ((v >>> 1) ||| bitAt 7 b).getLsbD i = if i = 7 then b else v.getLsbD (i + 1) := by
  rw [BitVec.getLsbD_or, BitVec.getLsbD_ushiftRight, bitAt_bit 7 b h, Nat.add_comm]
  by_cases hi : i = 7 <;> simp [hi]

/-- The sign bit that SRA keeps. -/
theorem and_signMask : ∀ v : Byte, v &&& 0x80 = bitAt 7 (v.getLsbD 7) := by decide

/-- Exchanged nibbles: each bit comes from four places away. -/
theorem swapNibbles_bit (v : Byte) {i : Nat} (h : i < 8) :
    ((v <<< 4) ||| (v >>> 4)).getLsbD i = v.getLsbD ((i + 4) % 8) := by
  interval_cases i <;> simp

theorem resByte_bit (k : BitNo) (v : Byte) {i : Nat} (h : i < 8) :
    (resByte k v).getLsbD i = (v.getLsbD i && decide (i ≠ k.toNat)) := by
  rw [resByte, BitVec.getLsbD_and, BitVec.getLsbD_not, bitAt_bit _ _ h]
  simp [h]

theorem setByte_bit (k : BitNo) (v : Byte) {i : Nat} (h : i < 8) :
    (setByte k v).getLsbD i = (v.getLsbD i || decide (i = k.toNat)) := by
  rw [setByte, BitVec.getLsbD_or, bitAt_bit _ _ h, Bool.true_and]

/-! ### Rotates and shifts -/

/-- SLA and SRL are the rotates through a carry flag of 0. -/
theorem rotate_logicalShift (v : Byte) (cin : Bool) :
    rotate .sla v cin = rotate .rl v false ∧ rotate .srl v cin = rotate .rr v false :=
  ⟨congrArg (·, _) BitVec.or_zero.symm, congrArg (·, _) BitVec.or_zero.symm⟩

/-- SRA is the rotate through a carry flag that holds the sign bit. -/
theorem rotate_sra (v : Byte) (cin : Bool) : rotate .sra v cin = rotate .rr v (v.getLsbD 7) :=
  congrArg (fun m => ((v >>> 1) ||| m, v.getLsbD 0)) (and_signMask v)

/-- The result of each operation is a shift by one place with the right bit entering, or exchanged nibbles (R285 to
R292). -/
theorem rotate_isRotated (o : RotOp) (v : Byte) (cin : Bool) : IsRotated o v cin (rotate o v cin).1 := by
  intro i hi
  cases o
  case rlc =>
    have hfrom : (i + 7) % 8 = if i = 0 then 7 else i - 1 := by split <;> omega
    rw [rotatedBit, hfrom, apply_ite v.getLsbD]
    exact shiftLeft_or_bit v _ hi
  case rrc =>
    have hfrom : (i + 1) % 8 = if i = 7 then 0 else i + 1 := by split <;> omega
    rw [rotatedBit, hfrom, apply_ite v.getLsbD]
    exact shiftRight_or_bit v _ hi
  case rl => exact shiftLeft_or_bit v cin hi
  case rr => exact shiftRight_or_bit v cin hi
  case sla =>
    rw [(rotate_logicalShift v cin).1]
    exact shiftLeft_or_bit v false hi
  case sra =>
    rw [rotate_sra]
    exact shiftRight_or_bit v _ hi
  case swap => exact swapNibbles_bit v hi
  case srl =>
    rw [(rotate_logicalShift v cin).2]
    exact shiftRight_or_bit v false hi

theorem rotate_shiftedOut (o : RotOp) (v : Byte) (cin : Bool) : (rotate o v cin).2 = shiftedOut o v := by
  cases o <;> rfl

theorem rotResult_eq (o : RotOp) (v : Byte) (f : Flags) :
    rotResult o v f =
      ((rotate o v f.c).1,
        { z := decide ((rotate o v f.c).1 = 0), n := false, h := false, c := shiftedOut o v }) := by
  rw [← rotate_shiftedOut o v f.c]
  rfl

theorem rotAResult_eq (o : RotOp) (v : Byte) (f : Flags) :
    rotAResult o v f = ((rotate o v f.c).1, { z := false, n := false, h := false, c := shiftedOut o v }) := by
  rw [← rotate_shiftedOut o v f.c]
  rfl

/-- The accumulator rotates are the rotates of the CB page on `A`, but for the flag Z (R280 to R283). -/
theorem exec_rotA {o : RotOp} {i : Instr}
    (h : (o = .rlc ∧ i = .rlca) ∨ (o = .rrc ∧ i = .rrca) ∨ (o = .rl ∧ i = .rla) ∨ (o = .rr ∧ i = .rra)) (s : State) :
    exec i s = .next (modifyA (rotAResult o) s) := by
  rcases h with ⟨rfl, rfl⟩ | ⟨rfl, rfl⟩ | ⟨rfl, rfl⟩ | ⟨rfl, rfl⟩ <;> rfl

/-- Settles O23: `rotate` gives the byte and the bit shifted out; `modifyA` and `modify8` put them in place. -/
theorem rotatesAndShifts : Obligations.RotatesAndShifts := by
  unfold Obligations.RotatesAndShifts
  refine ⟨fun o i s hform => ?accumulator, fun o x s => ⟨_, rotate_isRotated o _ s.regs.f.c, fun hx => ?register,
    fun hx => ?memory⟩⟩
  case accumulator =>
    have hresult := modifyA_result (rotAResult o) s
    rw [rotAResult_eq] at hresult
    obtain ⟨honly, ha, hrest⟩ := hresult
    have hrotated : IsRotated o s.regs.a s.regs.f.c (modifyA (rotAResult o) s).regs.a := by
      rw [BitVec.eq_of_toNat_eq ha]
      exact rotate_isRotated o s.regs.a s.regs.f.c
    exact ⟨_, exec_rotA hform s, hrotated, honly, rfl, hrest⟩
  case register =>
    have hresult := modify8_register hx (rotResult o) s
    rw [rotResult_eq] at hresult
    exact ⟨_, exec_rot o x s, hresult⟩
  case memory =>
    subst hx
    have hresult := modify8_atHl (rotResult o) s
    rw [rotResult_eq] at hresult
    exact ⟨_, _, exec_rot o .atHl s, hresult⟩

/-! ### BIT, RES and SET -/

/-- Settles O24: BIT writes the flags only; RES and SET write the operand, in a register or at `HL`, one bit changed. -/
theorem bitResAndSet : Obligations.BitResAndSet := by
  unfold Obligations.BitResAndSet
  intro k x s
  refine ⟨⟨_, exec_bit k x s, rfl⟩, resByte k (getOperand8 x s), setByte k (getOperand8 x s),
    fun i => resByte_bit k _, fun i => setByte_bit k _, fun hx => ?register, fun hx => ?memory⟩
  case register =>
    exact ⟨⟨_, exec_res k x s, setOperand8_result hx _ s⟩, ⟨_, exec_set k x s, setOperand8_result hx _ s⟩⟩
  case memory =>
    subst hx
    exact ⟨⟨_, exec_res k .atHl s, busWrite_result _ _ s⟩, ⟨_, exec_set k .atHl s, busWrite_result _ _ s⟩⟩

end Sys2Proof.Proofs
end

section
/-! Proofs of the statements of 60_exceptions.md: what an interrupt entry saves, clears and changes. -/

namespace Sys2Proof.Proofs

open Sys2Proof Machine Laws

/-! ## Proofs: the interrupt entry -/

/-- The entry withdraws request `n`, and no other, from what the push left in `IF` (R356). -/
theorem interruptEntry_request_bit (n : Nat) (s : State) {j : Nat} (hj : j < 5) :
    (interruptEntry n s).iflag.getLsbD j = ((push16 s.regs.pc s).iflag.getLsbD j && decide (j ≠ n)) := by
  rw [interruptEntry_eq, BitVec.getLsbD_and, BitVec.getLsbD_not, BitVec.getLsbD_ofNat, Nat.testBit_two_pow]
  simp [hj, eq_comm]

/-- Settles O8: the state after the push is the witness; the entry moves `pc`, clears the two enables and withdraws the
request there. -/
theorem interruptEntryEffect : Obligations.InterruptEntryEffect := by
  unfold Obligations.InterruptEntryEffect
  intro s n _
  refine ⟨push16 s.regs.pc s, push16_result _ s, ?entry, fun j hj => interruptEntry_request_bit n s hj⟩
  case entry => rw [interruptEntry_eq, setPc_eq, setRegs, interruptVector]

end Sys2Proof.Proofs
end

section
/-! Proofs of the statements of 61_timer.md: the timer step, the count of tap edges, and the timer registers. -/

namespace Sys2Proof.Proofs

open Sys2Proof Machine Laws

/-! ## Proofs: the timer -/

/-! ### The timer step -/

theorem timerReload_of_overflow {t : Timer} (h : t.overflow = true) :
    timerReload t = { t with tima := t.tma, overflow := false } := by
  rw [timerReload, if_pos h]

theorem timerReload_of_no_overflow {t : Timer} (h : t.overflow = false) : timerReload t = t := by
  rw [timerReload, h, if_neg Bool.false_ne_true, ← h]

/-- The edge that a timer step evaluates: from `div_last` to the next value of `DIV` (R402, R403). -/
def tickEdge (t : Timer) : Bool := timerEdge { t with div := t.div + 4 }

/-- Everything a timer step does, in terms of the reload that comes first. -/
theorem timerTick_eq (t : Timer) :
    timerTick t =
      { t with
        div := t.div + 4
        divLast := t.div + 4
        tima := BitVec.ofNat 8 ((timerReload t).tima.toNat + (tickEdge t).toNat)
        overflow := tickEdge t && decide ((timerReload t).tima = 0xFF) } := by
  rw [timerTick, timerEvaluate_eq, timerReload, Bool.or_false]
  rfl

/-- Settles O30: the request is `requestInterrupt_bit`, and the rest reads off `timerTick_eq`. -/
theorem timerStepEffect : Obligations.TimerStepEffect := by
  unfold Obligations.TimerStepEffect
  intro s
  refine ⟨rfl, fun n hn => requestInterrupt_bit _ _ hn, rfl, rfl, rfl, rfl, ?tima, ?overflow⟩
  case tima =>
    rw [timerStep, timerTick_eq]
    exact BitVec.toNat_ofNat _ 8
  case overflow =>
    rw [timerStep, timerTick_eq]
    rfl

/-! ### Counting tap edges -/

/-- The state of the timer `n` machine cycles after it started from zero, enabled on tap bit 3, with `TIMA` not yet
wrapped (R414). -/
structure CountedFromZero (n : Nat) (t : Timer) : Prop where
  tac : t.tac = 0b101
  overflow : t.overflow = false
  div : t.div.toNat = 4 * n
  divLast : t.divLast = t.div
  tima : t.tima.toNat = n / 4

/-- Bit 3 of `DIV` falls on every fourth machine cycle. -/
theorem bit3_falls (n : Nat) : ((4 * n).testBit 3 && !(4 * (n + 1)).testBit 3) = decide (n % 4 = 3) := by
  rw [Nat.testBit_eq_decide_div_mod_eq, Nat.testBit_eq_decide_div_mod_eq, Bool.eq_iff_iff, Bool.and_eq_true,
    Bool.not_eq_true', decide_eq_true_eq, decide_eq_false_iff_not, decide_eq_true_eq]
  omega

theorem quarter_succ (n : Nat) : n / 4 + (decide (n % 4 = 3)).toNat = (n + 1) / 4 := by
  by_cases h : n % 4 = 3
  · rw [decide_eq_true h, Bool.toNat_true]
    omega
  · rw [decide_eq_false h, Bool.toNat_false]
    omega

section
variable {n : Nat} {t : Timer} (h : CountedFromZero n t) (hn : n < 1023)
include h hn

theorem CountedFromZero.div_succ : (t.div + 4).toNat = 4 * (n + 1) := by
  have hdiv := h.div
  bv_omega

theorem CountedFromZero.tickEdge_eq : tickEdge t = decide (n % 4 = 3) := by
  have hdiv := h.div_succ hn
  rw [← bit3_falls, ← hdiv, ← h.div, tickEdge, timerEdge, h.tac, h.divLast]
  rfl

/-- `TIMA` is below 0xFF when it counts, so the count neither wraps nor defers a reload. -/
theorem CountedFromZero.tick : CountedFromZero (n + 1) (timerTick t) := by
  have hedge := h.tickEdge_eq hn
  have htima := h.tima
  rw [timerTick_eq, hedge, timerReload_of_no_overflow h.overflow]
  refine ⟨h.tac, ?overflow, h.div_succ hn, rfl, ?tima⟩
  case overflow =>
    have hroom : n % 4 = 3 → t.tima ≠ 0xFF := fun hlast hfull => by
      have hmax : t.tima.toNat = 255 := by rw [hfull]; rfl
      omega
    simpa using hroom
  case tima =>
    rw [BitVec.toNat_ofNat, htima, quarter_succ]
    exact Nat.mod_eq_of_lt (by omega)

end

/-- The count goes on for as long as `TIMA` has room, by induction on the machine cycles. -/
theorem CountedFromZero.iterate {n k : Nat} {t : Timer} (h : CountedFromZero n t) (hk : n + k < 1024) :
    CountedFromZero (n + k) (iterate timerTick k t) := by
  induction k generalizing n t with
  | zero => exact h
  | succ k ih =>
    rw [← Nat.succ_add_eq_add_succ] at hk ⊢
    exact ih (h.tick (by omega)) hk

/-- Settles O31, by induction on the machine cycles with the invariant `CountedFromZero`. -/
theorem timerCountsTapEdges : Obligations.TimerCountsTapEdges := by
  unfold Obligations.TimerCountsTapEdges
  intro k t hk hdiv hlast htima htac hoverflow
  have hstart : CountedFromZero 0 t := ⟨htac, hoverflow, by rw [hdiv]; rfl, hlast.trans hdiv.symm, by rw [htima]; rfl⟩
  have hend := hstart.iterate (k := k) (by omega)
  rw [Nat.zero_add] at hend
  exact ⟨hend.tima, hend.div⟩

/-! ### The timer registers -/

/-- The upper half of `DIV` is what a load sees (R404). -/
theorem div_high_toNat (d : Word) : (d.extractLsb' 8 8).toNat = d.toNat / 256 := by
  rw [BitVec.extractLsb'_toNat, Nat.shiftRight_eq_div_pow]
  omega

/-- `TAC` reads its bits 7:3 as 1 (R412). -/
theorem tac_missing_bits : ∀ c : BitVec 3, (0xF8 ||| c.setWidth 8 : Byte).toNat = 0xF8 + c.toNat := by decide

/-- A `DIV` of 0 has every tap bit at 0: an edge there is a set tap bit before. -/
theorem timerEdge_div_zero (t : Timer) :
    timerEdge { t with div := 0 } = (timerEnabled t.tac && t.divLast.getLsbD (tapBit t.tac)) := by
  rw [timerEdge, BitVec.ofNat_eq_ofNat, BitVec.getLsbD_zero, Bool.not_false, Bool.and_true]

theorem writeTima_eq (cancels : Bool) (t : Timer) (v : Byte) :
    writeTima cancels t v = { t with tima := v, overflow := if cancels then false else t.overflow } := by
  cases cancels <;> simp [writeTima]

theorem busRead_tma (s : State) : busRead s 0xFF06 = s.timer.tma := busRead_io s (by decide) (by decide)

theorem busWrite_tma (v : Byte) (s : State) : busWrite 0xFF06 v s = { s with timer := { s.timer with tma := v } } :=
  busWrite_io s v (by decide) (by decide)

/-- Settles O32: each load and each store is its handler's; the store to `DIV` evaluates an edge to 0. -/
theorem timerRegisters : Obligations.TimerRegisters := by
  unfold Obligations.TimerRegisters
  intro v s
  refine ⟨?divLoad, busRead_io s (by decide) (by decide), busRead_tma s, ?tacLoad, ?divStore, ?timaStore,
    busWrite_tma v s, ?tacStore⟩
  case divLoad =>
    rw [busRead_io s (by decide) (by decide)]
    exact div_high_toNat s.timer.div
  case tacLoad =>
    rw [busRead_io s (by decide) (by decide)]
    exact tac_missing_bits s.timer.tac
  case divStore =>
    have hwrite : busWrite 0xFF04 v s = { s with timer := writeDiv s.timer } := busWrite_io s v (by decide) (by decide)
    rw [hwrite, writeDiv, timerEvaluate_eq, timerEdge_div_zero]
    rfl
  case timaStore =>
    rw [← writeTima_eq]
    exact busWrite_io s v (by decide) (by decide)
  case tacStore =>
    rw [BitVec.ofNat_toNat]
    exact busWrite_io s v (by decide) (by decide)

/-- Settles O33: the store changes `TMA` alone, so a reload that is due stays due and takes the new byte. -/
theorem timerModulo : Obligations.TimerModulo := by
  unfold Obligations.TimerModulo
  intro v s
  refine ⟨busRead_tma s, busWrite_tma v s, fun hdue => ?_⟩
  rw [busWrite_tma]
  exact congrArg Timer.tima (timerReload_of_overflow (t := { s.timer with tma := v }) hdue)

end Sys2Proof.Proofs
end

section
/-! Proofs of the statements of 62_ppu.md: the PPU in agreement with the clock, its registers, its step, and the line
that it draws. -/

namespace Sys2Proof.Proofs

open Sys2Proof Machine Laws

/-! ## Proofs: the PPU -/

/-! ### The PPU step -/

/-- Where the schedule puts the PPU at the state's clock (R436). -/
def scheduled (s : State) : Nat × PpuMode := schedule s.params.mode3Len (s.cpuClock - s.ppu.displayEnableTime)

/-- The schedule takes the PPU to another line or mode: the display is on, has started, and is not there yet (R438). -/
def PpuMoves (s : State) : Prop :=
  displayOn s.ppu = true ∧ s.ppu.displayEnableTime ≤ s.cpuClock ∧
    ¬(s.ppu.line = (scheduled s).1 ∧ s.ppu.mode = (scheduled s).2)

/-- The PPU as it enters the line and mode where the schedule puts it (R437, R446, R450). -/
def entered (s : State) : Ppu := enterMode (scheduled s).1 (scheduled s).2 s.vram s.oam s.ppu

theorem ppuStep_of_moves {s : State} (h : PpuMoves s) :
    ppuStep s =
      statUpdate
        { s with
          ppu := entered s
          iflag := requestInterrupt 0 (entersVblank (scheduled s).1 (scheduled s).2) s.iflag } := by
  obtain ⟨hon, hstarted, hmoves⟩ := h
  have hmoves' : ¬((scheduled s).1 = s.ppu.line ∧ (scheduled s).2 = s.ppu.mode) :=
    fun h => hmoves ⟨h.1.symm, h.2.symm⟩
  rw [ppuStep, hon, if_neg (by decide), if_neg (Nat.not_lt.2 hstarted)]
  exact if_neg hmoves'

theorem ppuStep_of_not_moves {s : State} (h : ¬PpuMoves s) : ppuStep s = s := by
  rcases ppuStep_cases s with hrest | ⟨line, mode, hon, hstarted, hsched, hmoves, -⟩
  · exact hrest
  · obtain ⟨rfl, rfl⟩ : line = (scheduled s).1 ∧ mode = (scheduled s).2 := Prod.mk.inj hsched
    exact absurd ⟨hon, hstarted, fun h => hmoves ⟨h.1.symm, h.2.symm⟩⟩ h

theorem vramGate_eq (m : PpuMode) : vramGate m = decide (m ≠ .transfer) := by cases m <;> rfl

theorem oamGate_eq (m : PpuMode) : oamGate m = decide (m = .hblank ∨ m = .vblank) := by cases m <;> rfl

theorem publishFrame_frame (p : Ppu) :
    publishFrame p =
      { p with
        swallowFrame := (publishFrame p).swallowFrame, frame := (publishFrame p).frame
        published := (publishFrame p).published, framesPublished := (publishFrame p).framesPublished } := by
  unfold publishFrame
  split <;> rfl

/-- Entering a mode changes the line, the mode, the gates and the frames. -/
theorem entered_frame (s : State) :
    entered s =
      { s.ppu with
        line := (scheduled s).1, mode := (scheduled s).2, vramAccess := vramGate (scheduled s).2
        oamAccess := oamGate (scheduled s).2, swallowFrame := (entered s).swallowFrame, frame := (entered s).frame
        published := (entered s).published, framesPublished := (entered s).framesPublished } := by
  unfold entered enterMode
  cases (scheduled s).2
  case vblank =>
    dsimp only
    split
    · exact publishFrame_frame _
    · rfl
  all_goals rfl

/-- The lcd-stat line of a display that is on is the OR of its conditions (R441). -/
theorem newStatLine_of_on {p : Ppu} (h : displayOn p = true) : newStatLine p = statCondition p := by
  rw [newStatLine, h, Bool.true_and]

/-- The display stays on over the step, so the lcd-stat line is evaluated from its conditions. -/
theorem newStatLine_entered {s : State} (h : PpuMoves s) : newStatLine (entered s) = statCondition (entered s) := by
  refine newStatLine_of_on ?_
  rw [entered_frame]
  exact h.1

/-! ### The PPU in agreement with the clock -/

theorem ppuInv_off {s : State} (h : displayOn s.ppu = false) : PpuInv s ↔ PpuOff s.ppu := by
  rw [PpuInv, if_pos h]

theorem ppuInv_starting {s : State} (h : displayOn s.ppu = true) (hc : s.cpuClock < s.ppu.displayEnableTime) :
    PpuInv s ↔ PpuStarting s.ppu := by
  rw [PpuInv, h, if_neg (by decide), if_pos hc]

theorem ppuInv_started {s : State} (h : displayOn s.ppu = true) (hc : s.ppu.displayEnableTime ≤ s.cpuClock) :
    PpuInv s ↔ PpuOnSchedule s.params.mode3Len (s.cpuClock - s.ppu.displayEnableTime) s.ppu := by
  rw [PpuInv, h, if_neg (by decide), if_neg (Nat.not_lt.2 hc)]

/-- The PPU is off, starting, or on its schedule. -/
theorem display_cases (s : State) :
    displayOn s.ppu = false ∨ (displayOn s.ppu = true ∧ s.cpuClock < s.ppu.displayEnableTime) ∨
      (displayOn s.ppu = true ∧ s.ppu.displayEnableTime ≤ s.cpuClock) := by
  cases displayOn s.ppu
  · exact .inl rfl
  · exact .inr ((Nat.lt_or_ge _ _).imp (⟨rfl, ·⟩) (⟨rfl, ·⟩))

/-- New lcd-stat conditions, and the line re-evaluated, keep the agreement (R441). -/
theorem statUpdate_ppuInv {s : State} (e : BitVec 4) (l : Byte) (h : PpuInv s) :
    PpuInv (statUpdate { s with ppu := { s.ppu with statEnables := e, lyc := l } }) := by
  rcases display_cases s with hoff | ⟨hon, hc⟩ | ⟨hon, hc⟩
  · obtain ⟨hline, hmode, hvram, hoam, -, hswallow⟩ := (ppuInv_off hoff).1 h
    have hlow : newStatLine { s.ppu with statEnables := e, lyc := l } = false := by
      rw [newStatLine, show displayOn { s.ppu with statEnables := e, lyc := l } = false from hoff, Bool.false_and]
    refine (ppuInv_off ?_).2 ⟨hline, hmode, hvram, hoam, hlow, hswallow⟩
    exact hoff
  · refine (ppuInv_starting ?_ ?_).2 ((ppuInv_starting hon hc).1 h)
    · exact hon
    · exact hc
  · obtain ⟨hsched, hvram, hoam, -⟩ := (ppuInv_started hon hc).1 h
    refine (ppuInv_started ?_ ?_).2 ⟨hsched, hvram, hoam, newStatLine_of_on ?_⟩
    · exact hon
    · exact hc
    · exact hon

/-- A store to `LCDC` switches the display off, starts it, or leaves it as it is (R434). -/
theorem writeLcdc_ppuInv {s : State} (v : Byte) (h : PpuInv s) :
    PpuInv { s with ppu := writeLcdc s.cpuClock v s.ppu } := by
  cases hv : v.getLsbD 7 <;> cases hd : displayOn s.ppu
  case false.false =>
    have hkeeps : writeLcdc s.cpuClock v s.ppu = { s.ppu with lcdc := v } := by rw [writeLcdc, hd, hv]
    rw [hkeeps]
    refine (ppuInv_off ?_).2 ((ppuInv_off hd).1 h)
    exact hv
  case false.true =>
    have hstops : writeLcdc s.cpuClock v s.ppu = displaySwitchedOff { s.ppu with lcdc := v } := by
      rw [writeLcdc, hd, hv]
    rw [hstops]
    refine (ppuInv_off ?_).2 ⟨rfl, rfl, rfl, rfl, rfl, rfl⟩
    exact hv
  case true.false =>
    have hstarts : writeLcdc s.cpuClock v s.ppu = displaySwitchedOn s.cpuClock { s.ppu with lcdc := v } := by
      rw [writeLcdc, hd, hv]
    obtain ⟨-, -, hvram, hoam, -⟩ := (ppuInv_off hd).1 h
    rw [hstarts]
    refine (ppuInv_starting ?_ ?_).2 ⟨rfl, rfl, hvram, hoam⟩
    · exact hv
    · exact Nat.lt_add_of_pos_right (by decide : 0 < startupDelay)
  case true.true =>
    have hkeeps : writeLcdc s.cpuClock v s.ppu = { s.ppu with lcdc := v } := by rw [writeLcdc, hd, hv]
    have hold : PpuInv s ↔ PpuInv { s with ppu := { s.ppu with lcdc := v } } := by
      rw [PpuInv, PpuInv, hd, show displayOn { s.ppu with lcdc := v } = true from hv]
      rfl
    rw [hkeeps]
    exact hold.1 h

/-- A store keeps the PPU in agreement with the clock. -/
theorem busWrite_ppuInv (a : Word) (v : Byte) {s : State} (h : PpuInv s) : PpuInv (busWrite a v s) := by
  unfold busWrite
  generalize regionOf s.bootEnabled a.toNat = r
  cases r
  case io r =>
    cases r
    case lcdc => exact writeLcdc_ppuInv v h
    case stat => exact statUpdate_ppuInv (v.extractLsb' 3 4) s.ppu.lyc h
    case lyc => exact statUpdate_ppuInv s.ppu.statEnables v h
    all_goals exact h
  case vram k => simp only [regionWrite]; split <;> exact h
  case oam k => simp only [regionWrite]; split <;> exact h
  all_goals exact h

/-- A refresh period begins with the OAM scan of line 0 (R436). -/
theorem schedule_start (mode3Len : Nat) {dc : Nat} (h : dc < 80) : schedule mode3Len dc = (0, .oamScan) := by
  have hperiod : dc % periodCycles = dc := Nat.mod_eq_of_lt (by unfold periodCycles; omega)
  have hline : dc / lineCycles = 0 := Nat.div_eq_of_lt (by unfold lineCycles; omega)
  have hx : dc % lineCycles = dc := Nat.mod_eq_of_lt (by unfold lineCycles; omega)
  simp [schedule, hperiod, hline, hx, h]

/-- A PPU step that moves leaves the PPU on its schedule. -/
theorem ppuStep_ppuInv_of_moves {s : State} (h : PpuMoves s) : PpuInv (ppuStep s) := by
  have hstat := newStatLine_entered h
  rw [entered_frame] at hstat
  rw [ppuStep_of_moves h, entered_frame]
  obtain ⟨hon, hstarted, -⟩ := h
  refine (ppuInv_started ?_ ?_).2 ⟨rfl, rfl, rfl, hstat⟩
  · exact hon
  · exact hstarted

/-- The PPU step of the next machine cycle: it moves, or the PPU is where it belongs already. -/
theorem ppuStep_ppuInv {s u : State} (h : PpuInv s) (hppu : u.ppu = s.ppu)
    (hclock : u.cpuClock = s.cpuClock + 4) : PpuInv (ppuStep u) := by
  by_cases hmoves : PpuMoves u
  · exact ppuStep_ppuInv_of_moves hmoves
  rw [ppuStep_of_not_moves hmoves]
  rcases display_cases u with hoff | ⟨hon, hc⟩ | ⟨hon, hc⟩
  · rw [ppuInv_off hoff, hppu]
    exact (ppuInv_off (hppu ▸ hoff)).1 h
  · rw [ppuInv_starting hon hc, hppu]
    exact (ppuInv_starting (hppu ▸ hon) (by rw [← hppu]; omega)).1 h
  · obtain ⟨hline, hmode⟩ : u.ppu.line = (scheduled u).1 ∧ u.ppu.mode = (scheduled u).2 :=
      not_not.1 fun hn => hmoves ⟨hon, hc, hn⟩
    rw [ppuInv_started hon hc]
    rcases Nat.lt_or_ge s.cpuClock s.ppu.displayEnableTime with hstarting | hstarted
    · have hscan : scheduled u = (0, .oamScan) := schedule_start _ (by rw [hppu]; omega)
      obtain ⟨-, hblank, -⟩ := (ppuInv_starting (hppu ▸ hon) hstarting).1 h
      rw [hppu, hblank, hscan] at hmode
      cases hmode
    · obtain ⟨-, hvram, hoam, hstat⟩ := (ppuInv_started (hppu ▸ hon) hstarted).1 h
      exact ⟨Prod.ext hline hmode, hppu ▸ hvram, hppu ▸ hoam, hppu ▸ hstat⟩

/-- A machine cycle keeps the PPU in agreement with the clock. -/
theorem machineCycle_ppuInv {s : State} (h : PpuInv s) : PpuInv (machineCycle s) :=
  ppuStep_ppuInv (u := timerStep { s with cpuClock := s.cpuClock + 4 }) h rfl rfl

/-- Settles O54: of the parts of a step only a store to `LCDC`, `STAT` or `LYC` and a machine cycle touch the PPU or the
clock. -/
theorem stepKeepsPpuInv : Obligations.StepKeepsPpuInv := by
  unfold Obligations.StepKeepsPpuInv
  intro s t h hst
  refine step_invariant_of_frame (P := PpuInv) ?frame ?store ?dma ?cycle h hst
  case frame => exact fun _ _ _ _ _ _ _ _ _ h => h
  case store => exact fun a v _ h => busWrite_ppuInv a v h
  case dma => exact fun _ _ _ h => h
  case cycle => exact fun _ h => machineCycle_ppuInv h

/-! ### The registers -/

/-- What a store to `LCDC` does, by the display enable before and after it (R434). -/
theorem writeLcdc_eq (clock : Nat) (v : Byte) (p : Ppu) :
    writeLcdc clock v p =
      if p.lcdc.getLsbD 7 = true ∧ v.getLsbD 7 = false then displaySwitchedOff { p with lcdc := v }
      else if p.lcdc.getLsbD 7 = false ∧ v.getLsbD 7 = true then displaySwitchedOn clock { p with lcdc := v }
      else { p with lcdc := v } := by
  unfold writeLcdc displayOn
  cases p.lcdc.getLsbD 7 <;> cases v.getLsbD 7 <;> rfl

theorem mode_number_lt (m : PpuMode) : m.number < 4 := by cases m <;> decide

/-- `STAT` reads its bit 7 as 1, then the enables, the coincidence and the mode number (R432). -/
theorem readStat_toNat (p : Ppu) :
    (readStat p).toNat = 128 + 8 * p.statEnables.toNat + 4 * (coincidence p).toNat + p.mode.number := by
  have hfields : ∀ (e : BitVec 4) (c : Bool), ∀ n < 4,
      (0x80 ||| (e.setWidth 8 <<< 3) ||| bitAt 2 c ||| BitVec.ofNat 8 n : Byte).toNat =
        128 + 8 * e.toNat + 4 * c.toNat + n := by decide
  exact hfields _ _ _ (mode_number_lt p.mode)

/-- The enables that a store to `STAT` takes: bits 6:3 of the byte (R432). -/
theorem extract_statEnables (v : Byte) : v.extractLsb' 3 4 = BitVec.ofNat 4 (v.toNat / 8) := by
  apply BitVec.eq_of_toNat_eq
  simp [Nat.shiftRight_eq_div_pow]

/-- The lcd-stat conditions, with the mode as its number (R441). -/
theorem statCondition_number (p : Ppu) :
    statCondition p =
      ((p.statEnables.getLsbD 0 && decide (p.mode.number = 0)) ||
        (p.statEnables.getLsbD 1 && decide (p.mode.number = 1)) ||
        (p.statEnables.getLsbD 2 && decide (p.mode.number = 2)) ||
        (p.statEnables.getLsbD 3 && decide (p.line = p.lyc.toNat))) := by
  unfold statCondition
  cases p.mode <;> rfl

/-- Settles O34: each load and each store is its handler's, and a store to `STAT` or `LYC` is `StatUpdate` after it. -/
theorem lcdControlAndStatus : Obligations.LcdControlAndStatus := by
  unfold Obligations.LcdControlAndStatus
  intro v s
  dsimp only
  refine ⟨busRead_io s (by decide) (by decide), ?lcdcStore, ?statLoad, fun hline => ?lyLoad,
    busWrite_io s v (by decide) (by decide), busRead_io s (by decide) (by decide), ?statStore, ?lycStore⟩
  case lcdcStore =>
    have hwrite : busWrite 0xFF40 v s = { s with ppu := writeLcdc s.cpuClock v s.ppu } :=
      busWrite_io s v (by decide) (by decide)
    rw [hwrite, writeLcdc_eq]
    rfl
  case statLoad =>
    rw [busRead_io s (by decide) (by decide)]
    exact readStat_toNat s.ppu
  case lyLoad =>
    rw [busRead_io s (by decide) (by decide)]
    exact (BitVec.toNat_ofNat _ 8).trans (Nat.mod_eq_of_lt hline)
  case statStore =>
    have hwrite : busWrite 0xFF41 v s = writeStat v s := busWrite_io s v (by decide) (by decide)
    rw [hwrite, writeStat, extract_statEnables, statUpdate_eq, newStatLine, statCondition_number]
    rfl
  case lycStore =>
    have hwrite : busWrite 0xFF45 v s = writeLyc v s := busWrite_io s v (by decide) (by decide)
    rw [hwrite, writeLyc, statUpdate_eq, newStatLine, statCondition_number]
    rfl

/-! ### What a PPU step does -/

/-- A step that moves leaves the PPU as it entered its mode, with the lcd-stat line of its conditions. -/
theorem ppuStep_ppu {s : State} (h : PpuMoves s) :
    (ppuStep s).ppu = { entered s with statLine := statCondition (entered s) } := by
  rw [ppuStep_of_moves h, statUpdate_eq, ← newStatLine_entered h]

theorem statCondition_entered (s : State) :
    statCondition (entered s) = statCondition { s.ppu with line := (scheduled s).1, mode := (scheduled s).2 } := by
  rw [entered_frame]
  rfl

/-- A step that moves requests interrupt 0 on entering line 144 and interrupt 1 on a rise of the lcd-stat line. -/
theorem ppuStep_request {s : State} (h : PpuMoves s) {n : Nat} (hn : n < 5) :
    (ppuStep s).iflag.getLsbD n =
      (s.iflag.getLsbD n || (decide (n = 0) && decide ((scheduled s).2 = .vblank ∧ (scheduled s).1 = 144)) ||
        (decide (n = 1) && !s.ppu.statLine &&
          statCondition { s.ppu with line := (scheduled s).1, mode := (scheduled s).2 })) := by
  have hold : (entered s).statLine = s.ppu.statLine := by rw [entered_frame]
  rw [ppuStep_of_moves h, statUpdate_eq, requestInterrupt_bit _ _ hn, requestInterrupt_bit _ _ hn,
    newStatLine_entered h, statCondition_entered, hold, entersVblank, Bool.decide_and, Bool.and_assoc]

/-- Entering line 144 withholds the first frame after switching on, and publishes any other (R439, R446). -/
theorem entered_line144 {s : State} (h : (scheduled s).2 = .vblank ∧ (scheduled s).1 = 144) :
    (entered s).swallowFrame = false ∧
      (s.ppu.swallowFrame = true →
        (entered s).published = s.ppu.published ∧ (entered s).framesPublished = s.ppu.framesPublished) ∧
      (s.ppu.swallowFrame = false →
        (entered s).published = some s.ppu.frame ∧ (entered s).framesPublished = s.ppu.framesPublished + 1) := by
  rw [entered, h.1, h.2]
  unfold enterMode publishFrame
  cases s.ppu.swallowFrame <;> simp

/-- No other entry publishes or withholds a frame. -/
theorem entered_elsewhere {s : State} (h : ¬((scheduled s).2 = .vblank ∧ (scheduled s).1 = 144)) :
    (entered s).swallowFrame = s.ppu.swallowFrame ∧ (entered s).published = s.ppu.published ∧
      (entered s).framesPublished = s.ppu.framesPublished := by
  unfold entered enterMode
  generalize (scheduled s).2 = mode at h ⊢
  cases mode
  case vblank =>
    dsimp only
    rw [if_neg fun hline => h ⟨rfl, hline⟩]
    exact ⟨rfl, rfl, rfl⟩
  all_goals exact ⟨rfl, rfl, rfl⟩

/-- Outside mode 3 and line 144 the frame being drawn stays. -/
theorem entered_keeps_frame {s : State} (h : (scheduled s).2 = .hblank ∨ (scheduled s).2 = .oamScan) :
    (entered s).frame = s.ppu.frame := by
  unfold entered enterMode
  rcases h with h | h <;> rw [h]

/-- A step that moves changes the line, the mode, the gates, the lcd-stat line and the frames of the PPU. -/
theorem ppuStep_ppu_frame {s : State} (h : PpuMoves s) :
    (ppuStep s).ppu =
      { s.ppu with
        line := (scheduled s).1, mode := (scheduled s).2, vramAccess := decide ((scheduled s).2 ≠ .transfer)
        oamAccess := decide ((scheduled s).2 = .hblank ∨ (scheduled s).2 = .vblank)
        statLine := statCondition { s.ppu with line := (scheduled s).1, mode := (scheduled s).2 }
        swallowFrame := (ppuStep s).ppu.swallowFrame, frame := (ppuStep s).ppu.frame
        published := (ppuStep s).ppu.published, framesPublished := (ppuStep s).ppu.framesPublished } := by
  rw [ppuStep_ppu h, entered_frame, vramGate_eq, oamGate_eq]
  rfl

/-- Settles O35: `ppuStep_of_moves` and `ppuStep_of_not_moves`, with what entering a mode does to the gates and the
frames. -/
theorem ppuStepEffect : Obligations.PpuStepEffect := by
  unfold Obligations.PpuStepEffect
  intro s
  refine ⟨ppuStep_of_not_moves, fun (hmoves : PpuMoves s) => ?_⟩
  have hframe : ppuStep s = { s with ppu := (ppuStep s).ppu, iflag := (ppuStep s).iflag } := ppuStep_frame s
  have hppu := ppuStep_ppu hmoves
  refine ⟨?effect, fun n hn => ?request, fun henters hfirst => ?withheld, fun henters hlater => ?published,
    fun helsewhere => ?kept, fun hmode => ?drawn⟩
  case effect =>
    rw [ppuStep_ppu_frame hmoves] at hframe
    exact hframe
  case request => exact ppuStep_request hmoves hn
  case withheld =>
    obtain ⟨hswallow, hfirst', -⟩ := entered_line144 henters
    rw [hppu]
    exact ⟨hswallow, hfirst' hfirst⟩
  case published =>
    obtain ⟨hswallow, -, hlater'⟩ := entered_line144 henters
    rw [hppu]
    exact ⟨hswallow, hlater' hlater⟩
  case kept =>
    rw [hppu]
    exact entered_elsewhere helsewhere
  case drawn =>
    rw [hppu]
    exact entered_keeps_frame hmode

/-! ### Rows of a frame -/

/-- A row put in a frame is found there, whatever the order of the rows. -/
theorem frameRow_setRow_same (ly : Nat) (row : List Shade) (f : Frame) : frameRow (setRow ly row f) ly = some row := by
  induction f with
  | nil => simp [setRow, frameRow]
  | cons e f ih =>
    obtain ⟨k, r⟩ := e
    unfold setRow
    split
    · simp [frameRow]
    · split
      · simp [frameRow]
      · have hk : (ly == k) = false := by simpa
        simpa [frameRow, List.lookup_cons, hk] using ih

/-- A row put in a frame leaves every other row alone. -/
theorem frameRow_setRow_other {ly k : Nat} (row : List Shade) (f : Frame) (h : k ≠ ly) :
    frameRow (setRow ly row f) k = frameRow f k := by
  have hly : (k == ly) = false := by simpa
  induction f with
  | nil => simp [setRow, frameRow, List.lookup_cons, hly]
  | cons e f ih =>
    obtain ⟨j, r⟩ := e
    unfold setRow
    split
    · simp [frameRow, List.lookup_cons, hly]
    · split
      · rename_i hj
        simp [frameRow, List.lookup_cons, ← hj, hly]
      · unfold frameRow at ih ⊢
        rw [List.lookup_cons, List.lookup_cons, ih]

/-! ### Priorities of sprites -/

theorem spriteBeats_iff (a b : Sprite) :
    spriteBeats a b = true ↔ a.x < b.x ∨ (a.x = b.x ∧ a.index < b.index) := by
  simp [spriteBeats, BitVec.lt_def]

/-- No two sprites beat each other. -/
theorem spriteBeats_asymm {a b : Sprite} (h : spriteBeats a b = true) : spriteBeats b a = false := by
  rw [← Bool.not_eq_true, spriteBeats_iff]
  rw [spriteBeats_iff] at h
  bv_omega

theorem spriteBeats_trans {a b c : Sprite} (h : spriteBeats a b = true) (g : spriteBeats b c = true) :
    spriteBeats a c = true := by
  rw [spriteBeats_iff] at *
  bv_omega

/-- Of two entries of `OAM`, one beats the other. -/
theorem spriteBeats_total {a b : Sprite} (h : a.index ≠ b.index) (g : spriteBeats a b = false) :
    spriteBeats b a = true := by
  rw [← Bool.not_eq_true, spriteBeats_iff] at g
  rw [spriteBeats_iff]
  bv_omega

/-- Lowest priority first: no sprite beats a later one. -/
def PriorityOrder (l : List Sprite) : Prop := l.Pairwise fun a b => spriteBeats a b = false

theorem insertSprite_perm (s : Sprite) (l : List Sprite) : (insertSprite s l).Perm (s :: l) := by
  induction l with
  | nil => exact .refl _
  | cons t l ih =>
    unfold insertSprite
    split
    · exact .refl _
    · exact (ih.cons t).trans (.swap s t l)

theorem insertSprite_order (s : Sprite) {l : List Sprite} (h : PriorityOrder l) : PriorityOrder (insertSprite s l) := by
  induction l with
  | nil => exact List.pairwise_singleton _ _
  | cons t l ih =>
    obtain ⟨ht, hl⟩ := List.pairwise_cons.1 h
    unfold insertSprite
    split
    · rename_i hbeats
      refine List.pairwise_cons.2 ⟨fun u hu => ?_, h⟩
      rcases List.mem_cons.1 hu with rfl | hu
      · exact spriteBeats_asymm hbeats
      · exact Bool.eq_false_iff.2 fun hsu => Bool.eq_false_iff.1 (ht u hu) (spriteBeats_trans hbeats hsu)
    · rename_i hbeats
      refine List.pairwise_cons.2 ⟨fun u hu => ?_, ih hl⟩
      rcases List.mem_cons.1 ((insertSprite_perm s l).mem_iff.1 hu) with rfl | hu
      · exact Bool.eq_false_iff.2 hbeats
      · exact ht u hu

theorem sortSprites_perm (l : List Sprite) : (sortSprites l).Perm l := by
  induction l with
  | nil => exact .refl _
  | cons s l ih => exact (insertSprite_perm s _).trans (ih.cons s)

theorem sortSprites_order (l : List Sprite) : PriorityOrder (sortSprites l) := by
  induction l with
  | nil => exact .nil
  | cons s l ih => exact insertSprite_order s ih

/-! ### The visible sprites -/

/-- In a list where each element is beaten by every later one, the last `k` are those that fewer than `k` beat. -/
theorem mem_drop_iff_countP {α : Type} {beats : α → α → Bool}
    (asymm : ∀ a b, beats a b = true → beats b a = false) {l : List α}
    (hl : l.Pairwise fun a b => beats b a = true) {a : α} (ha : a ∈ l) (k : Nat) :
    a ∈ l.drop (l.length - k) ↔ l.countP (beats · a) < k := by
  obtain ⟨pre, post, rfl⟩ := List.append_of_mem ha
  obtain ⟨-, hpost, hpre⟩ := List.pairwise_append.1 hl
  obtain ⟨hpost, -⟩ := List.pairwise_cons.1 hpost
  have hirrefl : beats a a = false := Bool.eq_false_iff.2 fun h => Bool.eq_false_iff.1 (asymm a a h) h
  have hcount : (pre ++ a :: post).countP (beats · a) = post.length := by
    have hbefore : pre.countP (beats · a) = 0 := by
      rw [List.countP_eq_zero]
      intro b hb
      exact Bool.eq_false_iff.1 (asymm _ _ (hpre b hb a (by simp)))
    have hafter : post.countP (beats · a) = post.length := List.countP_eq_length.2 hpost
    rw [List.countP_append, List.countP_cons, hbefore, hafter, hirrefl]
    simp
  have hfresh : a ∉ post := fun h => Bool.eq_false_iff.1 hirrefl (hpost a h)
  rw [hcount]
  constructor
  · intro h
    by_contra hk
    rw [List.append_cons, List.drop_append, List.drop_eq_nil_of_le (by simp; omega), List.nil_append] at h
    exact hfresh (List.mem_of_mem_drop h)
  · intro hk
    rw [List.drop_append_of_le_length (by simp; omega)]
    simp

/-- The entries that overlap a line, lowest priority first (R452). -/
def lineSprites (s : State) (ly : Nat) : List Sprite :=
  sortSprites (((List.range 40).map (spriteAt s.oam)).filter (spriteOnLine (spriteHeight s.ppu) ly))

theorem spriteOnLine_iff (s : State) (ly i : Nat) :
    spriteOnLine (spriteHeight s.ppu) ly (spriteAt s.oam i) = true ↔ OverlapsLine s ly i := by
  rw [spriteOnLine, Bool.and_eq_true, decide_eq_true_eq, decide_eq_true_eq]
  rfl

theorem spriteBeats_spriteAt (s : State) (i j : Nat) :
    spriteBeats (spriteAt s.oam i) (spriteAt s.oam j) = true ↔ BeatsSprite s i j := spriteBeats_iff _ _

theorem mem_lineSprites {s : State} {ly : Nat} {t : Sprite} :
    t ∈ lineSprites s ly ↔ ∃ i, (i < 40 ∧ OverlapsLine s ly i) ∧ spriteAt s.oam i = t := by
  rw [lineSprites, (sortSprites_perm _).mem_iff, List.mem_filter, List.mem_map]
  constructor
  · rintro ⟨⟨i, hi, rfl⟩, hon⟩
    exact ⟨i, ⟨List.mem_range.1 hi, (spriteOnLine_iff s ly i).1 hon⟩, rfl⟩
  · rintro ⟨i, ⟨hi, hon⟩, rfl⟩
    exact ⟨⟨i, List.mem_range.2 hi, rfl⟩, (spriteOnLine_iff s ly i).2 hon⟩

/-- No entry of `OAM` stands twice among the entries of a line. -/
theorem lineSprites_index_nodup (s : State) (ly : Nat) : ((lineSprites s ly).map Sprite.index).Nodup := by
  have hentries : ((List.range 40).map (spriteAt s.oam)).map Sprite.index = List.range 40 := by
    rw [List.map_map]
    exact List.map_id _
  refine ((sortSprites_perm _).map Sprite.index).nodup_iff.2 ?_
  refine (List.filter_sublist.map Sprite.index).nodup ?_
  rw [hentries]
  exact List.nodup_range

/-- Each entry of a line is beaten by every one after it. -/
theorem lineSprites_beaten (s : State) (ly : Nat) :
    (lineSprites s ly).Pairwise fun a b => spriteBeats b a = true := by
  have hdistinct := List.pairwise_map.1 (lineSprites_index_nodup s ly)
  exact ((sortSprites_order _).and hdistinct).imp fun h => spriteBeats_total h.2 h.1

/-- Fewer than `k` of the entries that overlap the line beat entry `i`, said of every list of such entries. -/
theorem countP_beats_lt_iff (s : State) (ly i k : Nat) :
    (lineSprites s ly).countP (spriteBeats · (spriteAt s.oam i)) < k ↔
      ∀ l : List Nat, l.Nodup → (∀ j ∈ l, j < 40 ∧ OverlapsLine s ly j ∧ BeatsSprite s j i) → l.length < k := by
  rw [List.countP_eq_length_filter]
  constructor
  · intro hcount l hnodup hl
    have hinj : Function.Injective (spriteAt s.oam) := fun _ _ h => congrArg Sprite.index h
    have hsub : l.map (spriteAt s.oam) ⊆ (lineSprites s ly).filter (spriteBeats · (spriteAt s.oam i)) := by
      intro t ht
      obtain ⟨j, hj, rfl⟩ := List.mem_map.1 ht
      obtain ⟨hj40, hon, hbeats⟩ := hl j hj
      exact List.mem_filter.2 ⟨mem_lineSprites.2 ⟨j, ⟨hj40, hon⟩, rfl⟩, (spriteBeats_spriteAt s j i).2 hbeats⟩
    have hlength := (List.subperm_of_subset (hnodup.map hinj) hsub).length_le
    rw [List.length_map] at hlength
    exact hlength.trans_lt hcount
  · intro h
    have hlength := h (((lineSprites s ly).filter (spriteBeats · (spriteAt s.oam i))).map Sprite.index)
      ((List.filter_sublist.map Sprite.index).nodup (lineSprites_index_nodup s ly)) fun j hj => ?_
    · rwa [List.length_map] at hlength
    · obtain ⟨t, ht, rfl⟩ := List.mem_map.1 hj
      obtain ⟨hmem, hbeats⟩ := List.mem_filter.1 ht
      obtain ⟨j, ⟨hj40, hon⟩, rfl⟩ := mem_lineSprites.1 hmem
      exact ⟨hj40, hon, (spriteBeats_spriteAt s j i).1 hbeats⟩

/-- The sprites painted on a line, in the order in which they are painted (R452, R453). -/
def drawnSprites (s : State) (ly : Nat) : List Sprite :=
  if s.ppu.lcdc.getLsbD 1 then selectSprites s.ppu s.oam ly else []

/-- The sprites painted are the visible ones. -/
theorem mem_drawnSprites {s : State} {ly : Nat} {t : Sprite} :
    t ∈ drawnSprites s ly ↔ ∃ i, VisibleSprite s ly i ∧ spriteAt s.oam i = t := by
  have hlast {u : Sprite} (hu : u ∈ lineSprites s ly) :=
    mem_drop_iff_countP (fun _ _ => spriteBeats_asymm) (lineSprites_beaten s ly) hu 10
  unfold drawnSprites
  split
  · rename_i hon
    constructor
    · intro ht
      have hline : t ∈ lineSprites s ly := List.mem_of_mem_drop ht
      obtain ⟨i, ⟨hi, hover⟩, rfl⟩ := mem_lineSprites.1 hline
      exact ⟨i, ⟨hon, hi, hover, (countP_beats_lt_iff s ly i 10).1 ((hlast hline).1 ht)⟩, rfl⟩
    · rintro ⟨i, ⟨-, hi, hover, hfew⟩, rfl⟩
      exact (hlast (mem_lineSprites.2 ⟨i, ⟨hi, hover⟩, rfl⟩)).2 ((countP_beats_lt_iff s ly i 10).2 hfew)
  · rename_i hoff
    constructor
    · intro ht
      cases ht
    · rintro ⟨i, ⟨hon, -⟩, -⟩
      exact absurd hon hoff

/-- Each sprite painted is beaten by every one painted after it. -/
theorem drawnSprites_beaten (s : State) (ly : Nat) :
    (drawnSprites s ly).Pairwise fun a b => spriteBeats b a = true := by
  unfold drawnSprites
  split
  · exact (lineSprites_beaten s ly).sublist (List.drop_sublist _ _)
  · exact .nil

/-! ### Colours -/

theorem shadeOf_toNat (pal : Byte) (c : BitVec 2) : (shadeOf pal c).toNat = paletteShade pal c.toNat := by
  rw [shadeOf, paletteShade, BitVec.extractLsb'_toNat, Nat.shiftRight_eq_div_pow, Nat.pow_mul]

/-- The two bit planes of a tile row, as a number (R450). -/
theorem tileRowPixel_toNat (s : State) (offset row col : Nat) :
    (tileRowPixel s.vram offset row col).toNat = tileColour s (0x8000 + offset) row col := by
  have hplanes : ∀ hi lo : Bool, (BitVec.ofBool hi ++ BitVec.ofBool lo).toNat = 2 * hi.toNat + lo.toNat := by decide
  have hoffset : 0x8000 + offset - 0x8000 = offset := Nat.add_sub_cancel_left _ _
  simp only [tileRowPixel, tileColour, hoffset, hplanes, Nat.add_zero]

/-- The address of a background or window tile: unsigned from 0x8000 or signed from 0x9000 (R450). -/
theorem tileDataOffset_eq (lcdc t : Byte) :
    (if lcdc.getLsbD 4 then 0x8000 + 16 * (t.toNat : Int) else 0x9000 + 16 * t.toInt).toNat =
      0x8000 + tileDataOffset lcdc t := by
  have ht := t.isLt
  rw [BitVec.toInt_eq_toNat_cond, tileDataOffset]
  split
  · omega
  · split <;> split <;> omega

theorem tilePixel_toNat (s : State) (map : Bool) (px py : Nat) :
    (tilePixel s.ppu.lcdc s.vram map px py).toNat = mapColour s map px py := by
  have hbase : (if map then 0x9C00 else 0x9800) - 0x8000 = if map then 0x1C00 else 0x1800 := by cases map <;> rfl
  rw [tilePixel, tileRowPixel_toNat, mapColour, hbase, tileDataOffset_eq]

/-- The background or window colour (R450). -/
theorem backgroundIndex_toNat (s : State) (ly x : Nat) :
    (backgroundIndex s.ppu s.vram ly x).toNat = underColour s ly x := by
  have hwindow : windowCovers s.ppu ly x = true ↔
      s.ppu.lcdc.getLsbD 5 = true ∧ s.ppu.wy.toNat ≤ ly ∧ s.ppu.wx.toNat ≤ x + 7 := by
    simp [windowCovers, and_assoc]
  simp only [backgroundIndex, underColour, hwindow]
  split
  · exact tilePixel_toNat s _ _ _
  · split
    · exact tilePixel_toNat s _ _ _
    · rfl

/-- The row of a sprite, from its top, that lies on a line, with its vertical flip (R453). -/
def spriteRow (s : State) (ly i : Nat) : Nat :=
  let down := ly + 16 - (oamByte s i 0).toNat
  if (oamByte s i 3).getLsbD 6 then spriteLines s - 1 - down else down

theorem spriteRow_lt {s : State} {ly i : Nat} (h : OverlapsLine s ly i) : spriteRow s ly i < 16 := by
  obtain ⟨htop, hbottom⟩ := h
  have hlines : spriteLines s ≤ 16 := by unfold spriteLines; split <;> decide
  unfold spriteRow
  dsimp only
  split <;> omega

/-- The colour of a sprite in its column `col` on a line, as the renderer looks it up. -/
def spriteIndex (s : State) (ly i col : Nat) : BitVec 2 :=
  let tile := (oamByte s i 2).toNat
  tileRowPixel s.vram
    (16 * if spriteLines s = 8 then tile else tile / 2 * 2 + if 8 ≤ spriteRow s ly i then 1 else 0)
    (spriteRow s ly i % 8) (if (oamByte s i 3).getLsbD 5 then 7 - col else col)

/-- Rows 8 to 15 of a sprite of two tiles lie in the odd one. -/
theorem spriteIndex_toNat {s : State} {ly i : Nat} (h : OverlapsLine s ly i) (col : Nat) :
    (spriteIndex s ly i col).toNat = spriteColour s ly i col := by
  have hrow := spriteRow_lt h
  have hodd : (if 8 ≤ spriteRow s ly i then 1 else 0) = spriteRow s ly i / 8 := by split <;> omega
  have heven (tile : Nat) : tile / 2 * 2 = tile - tile % 2 := by omega
  rw [spriteIndex, tileRowPixel_toNat, hodd, heven]
  rfl

/-- What the renderer paints of a sprite: nothing outside its columns, where it is transparent, or behind a background
that is not (R453). -/
theorem spriteShade_eq (s : State) (ly i x : Nat) (under : BitVec 2) :
    spriteShade s.ppu s.vram ly x under (spriteAt s.oam i) =
      let col := x + 8 - (oamByte s i 1).toNat
      if x + 8 < (oamByte s i 1).toNat ∨ 8 ≤ col then none
      else if spriteIndex s ly i col = 0 then none
      else if (oamByte s i 3).getLsbD 7 && decide (under ≠ 0) then none
      else some (shadeOf (if (oamByte s i 3).getLsbD 4 then s.ppu.obp1 else s.ppu.obp0) (spriteIndex s ly i col)) :=
  rfl

/-- When a sprite paints a pixel, in the renderer's terms. -/
theorem paintsPixel_iff {s : State} {ly i : Nat} (h : OverlapsLine s ly i) (x : Nat) :
    PaintsPixel s ly i x ↔
      ¬(x + 8 < (oamByte s i 1).toNat ∨ 8 ≤ x + 8 - (oamByte s i 1).toNat) ∧
        spriteIndex s ly i (x + 8 - (oamByte s i 1).toNat) ≠ 0 ∧
        ¬((oamByte s i 3).getLsbD 7 && decide (backgroundIndex s.ppu s.vram ly x ≠ 0)) = true := by
  have hzero (c : BitVec 2) : c = 0 ↔ c.toNat = 0 := BitVec.toNat_inj.symm
  rw [Bool.and_eq_true, decide_eq_true_eq, not_and, not_not, ne_eq, hzero, hzero, spriteIndex_toNat h,
    backgroundIndex_toNat]
  constructor
  · rintro ⟨col, hcol, hx, hpaints⟩
    obtain rfl : col = x + 8 - (oamByte s i 1).toNat := by omega
    exact ⟨by omega, hpaints⟩
  · rintro ⟨hcol, hpaints⟩
    exact ⟨x + 8 - (oamByte s i 1).toNat, by omega, by omega, hpaints⟩

/-- A sprite that paints a pixel paints its own shade there. -/
theorem spriteShade_of_paints {s : State} {ly i x : Nat} (hover : OverlapsLine s ly i) (h : PaintsPixel s ly i x) :
    ∃ c, spriteShade s.ppu s.vram ly x (backgroundIndex s.ppu s.vram ly x) (spriteAt s.oam i) = some c ∧
      c.toNat = paintedShade s ly i x := by
  obtain ⟨hcol, hcolour, hfront⟩ := (paintsPixel_iff hover x).1 h
  rw [spriteShade_eq]
  dsimp only
  rw [if_neg hcol, if_neg hcolour, if_neg hfront]
  refine ⟨_, rfl, ?_⟩
  rw [shadeOf_toNat, spriteIndex_toNat hover, paintedShade]

/-- A sprite that does not paint a pixel leaves it alone. -/
theorem spriteShade_of_not_paints {s : State} {ly i x : Nat} (hover : OverlapsLine s ly i)
    (h : ¬PaintsPixel s ly i x) :
    spriteShade s.ppu s.vram ly x (backgroundIndex s.ppu s.vram ly x) (spriteAt s.oam i) = none := by
  rw [paintsPixel_iff hover] at h
  rw [spriteShade_eq]
  dsimp only
  split
  · rfl
  · rename_i hcol
    split
    · rfl
    · rename_i hcolour
      exact if_pos (not_not.1 fun hfront => h ⟨hcol, hcolour, hfront⟩)

/-! ### The pixels of a line -/

theorem foldl_getD_of_none {α β : Type} {f : α → Option β} {l : List α} (h : ∀ a ∈ l, f a = none) (b : β) :
    l.foldl (fun b a => (f a).getD b) b = b := by
  induction l with
  | nil => rfl
  | cons a l ih =>
    rw [List.foldl_cons, h a (by simp), Option.getD_none]
    exact ih fun c hc => h c (by simp [hc])

theorem overlaps_of_visible {s : State} {ly i : Nat} (h : VisibleSprite s ly i) : OverlapsLine s ly i :=
  have ⟨_, _, hover, _⟩ := h
  hover

/-- Where no visible sprite paints, the pixel has the shade of the window or background. -/
theorem pixelShade_bare {s : State} {ly x : Nat} (h : ∀ i, ¬(VisibleSprite s ly i ∧ PaintsPixel s ly i x)) :
    (pixelShade s.ppu s.vram (drawnSprites s ly) ly x).toNat = paletteShade s.ppu.bgp (underColour s ly x) := by
  rw [pixelShade, foldl_getD_of_none, shadeOf_toNat, backgroundIndex_toNat]
  intro t ht
  obtain ⟨i, hvisible, rfl⟩ := mem_drawnSprites.1 ht
  exact spriteShade_of_not_paints (overlaps_of_visible hvisible) fun hp => h i ⟨hvisible, hp⟩

/-- A pixel has the shade of the visible sprite that paints there and that no other such sprite beats. -/
theorem pixelShade_painted {s : State} {ly i x : Nat} (hvisible : VisibleSprite s ly i) (hpaints : PaintsPixel s ly i x)
    (hbest : ∀ j, VisibleSprite s ly j → PaintsPixel s ly j x → ¬BeatsSprite s j i) :
    (pixelShade s.ppu s.vram (drawnSprites s ly) ly x).toNat = paintedShade s ly i x := by
  obtain ⟨pre, post, hsplit⟩ := List.append_of_mem (mem_drawnSprites.2 ⟨i, hvisible, rfl⟩)
  have hbeaten := drawnSprites_beaten s ly
  rw [hsplit] at hbeaten
  obtain ⟨hlater, -⟩ := List.pairwise_cons.1 (List.pairwise_append.1 hbeaten).2.1
  have hpost : ∀ t ∈ post,
      spriteShade s.ppu s.vram ly x (backgroundIndex s.ppu s.vram ly x) t = none := by
    intro t ht
    obtain ⟨j, hj, rfl⟩ := mem_drawnSprites.1 (hsplit ▸ (by simp [ht]) : t ∈ drawnSprites s ly)
    have hbeats := (spriteBeats_spriteAt s j i).1 (hlater _ ht)
    exact spriteShade_of_not_paints (overlaps_of_visible hj) fun hp => hbest j hj hp hbeats
  obtain ⟨c, hc, hshade⟩ := spriteShade_of_paints (overlaps_of_visible hvisible) hpaints
  rw [pixelShade, hsplit, List.foldl_append, List.foldl_cons, hc, Option.getD_some, foldl_getD_of_none hpost, hshade]

/-- Entering mode 3 draws the row of the line (R450). -/
theorem entered_draws {s : State} (h : (scheduled s).2 = .transfer) :
    (entered s).frame =
      setRow (scheduled s).1
        ((List.range 160).map (pixelShade s.ppu s.vram (drawnSprites s (scheduled s).1) (scheduled s).1))
        s.ppu.frame := by
  unfold entered
  rw [h]
  rfl

/-- Settles O36: the step that enters mode 3 puts the row in the frame, and its pixels are `pixelShade_bare` and
`pixelShade_painted`. -/
theorem renderedLine : Obligations.RenderedLine := by
  unfold Obligations.RenderedLine
  intro s ly hmode hline hnew
  have hmoves : PpuMoves s := by
    by_contra hrest
    rw [ppuStep_of_not_moves hrest] at hmode hline
    exact hnew ⟨hmode, hline⟩
  rw [ppuStep_ppu_frame hmoves] at hmode hline
  obtain rfl : (scheduled s).1 = ly := hline
  rw [ppuStep_ppu hmoves]
  dsimp only
  rw [entered_draws hmode]
  refine ⟨fun k hk => frameRow_setRow_other _ _ hk, _, frameRow_setRow_same _ _ _, by simp, fun x hx => ?_⟩
  exact ⟨pixelShade s.ppu s.vram (drawnSprites s (scheduled s).1) (scheduled s).1 x, by simp [hx], pixelShade_bare,
    fun i hvisible hpaints hbest => pixelShade_painted hvisible hpaints hbest⟩

end Sys2Proof.Proofs
end

section
/-! Proofs of the statements of 63_apu.md: the frame sequencer, the invariant of the sound counters, the sound registers
and the triggers, the channel timers and the samples. -/

namespace Sys2Proof.Proofs

open Sys2Proof Machine Laws

/-! ## The sweep calculation and the triggers -/

/-- The frequency that `SweepCalc()` makes of a shadow frequency (R493). -/
def sweptFreq (g : ApuRegs) (shadow : Nat) : Nat :=
  if g.nr10.getLsbD 3 then shadow - shadow / 2 ^ sweepShift g else shadow + shadow / 2 ^ sweepShift g

theorem sweepCalc_eq (a : Apu) : sweepCalc a = sweptFreq a.regs a.sweep.shadow.toNat := rfl

/-- The overflow check writes the switch of channel 1 alone (R493). -/
theorem sweepCheck_eq (a : Apu) :
    sweepCheck a = { a with ch1 := { a.ch1 with on := a.ch1.on && decide (sweepCalc a ≤ 2047) } } := by
  unfold sweepCheck
  split
  case isTrue h => simp [Nat.not_le.2 h]
  case isFalse h => simp [Nat.not_lt.1 h]

theorem freqOf_lt (nrx3 nrx4 : Byte) : freqOf nrx3 nrx4 < 2048 := by
  unfold freqOf
  omega

/-- A trigger of channel 1: the overflow check is run where the shift is not 0, on the frequency just loaded. -/
theorem trigger1_eq (a : Apu) :
    trigger1 a =
      { a with
        ch1 :=
          { triggerPulse a.regs.nr11 a.regs.nr12 a.regs.nr13 a.regs.nr14 a.ch1 with
            on := decide (sweepShift a.regs = 0) ||
              decide (sweptFreq a.regs (freqOf a.regs.nr13 a.regs.nr14) ≤ 2047) }
        sweep :=
          { timer := orEight (sweepPeriod a.regs)
            on := decide (sweepPeriod a.regs ≠ 0 ∨ sweepShift a.regs ≠ 0)
            shadow := BitVec.ofNat 11 (freqOf a.regs.nr13 a.regs.nr14) } } := by
  have hshadow : (BitVec.ofNat 11 (freqOf a.regs.nr13 a.regs.nr14)).toNat = freqOf a.regs.nr13 a.regs.nr14 := by
    rw [BitVec.toNat_ofNat, Nat.mod_eq_of_lt (freqOf_lt _ _)]
  unfold trigger1
  by_cases hshift : sweepShift a.regs = 0
  · simp [hshift, triggerPulse]
  · simp [hshift, sweepCheck_eq, sweepCalc_eq, hshadow, triggerPulse]

/-! ## The frame sequencer -/

/-- The length event of a channel, where the position has one (R487, R491). -/
def tickLength (pos : Nat) (nr4 : Byte) (on : Bool) (len : Nat) : Nat × Bool :=
  if pos % 2 = 0 then lengthStep nr4 on len else (len, on)

/-- The envelope event of a channel, where the position has one (R487, R492). -/
def tickEnvelope (pos : Nat) (nr2 : Byte) (timer : Nat) (vol : BitVec 4) : Nat × BitVec 4 :=
  if pos = 7 then envelopeStep nr2 timer vol else (timer, vol)

/-- The length part of a tick. -/
def lengthTick (pos : Nat) (a : Apu) : Apu := if pos % 2 = 0 then lengthEvent a else a

/-- The sweep part of a tick. -/
def sweepTick (pos : Nat) (a : Apu) : Apu := if pos = 2 ∨ pos = 6 then sweepEvent a else a

/-- The envelope part of a tick. -/
def envelopeTick (pos : Nat) (a : Apu) : Apu := if pos = 7 then envelopeEvent a else a

theorem sequencerEvents_eq {pos : Nat} (h : pos < 8) (a : Apu) :
    sequencerEvents pos a = envelopeTick pos (sweepTick pos (lengthTick pos a)) := by
  interval_cases pos <;> rfl

theorem lengthTick_eq (pos : Nat) (a : Apu) :
    lengthTick pos a =
      { a with
        ch1 := { a.ch1 with
          len := (tickLength pos a.regs.nr14 a.ch1.on a.ch1.len).1
          on := (tickLength pos a.regs.nr14 a.ch1.on a.ch1.len).2 }
        ch2 := { a.ch2 with
          len := (tickLength pos a.regs.nr24 a.ch2.on a.ch2.len).1
          on := (tickLength pos a.regs.nr24 a.ch2.on a.ch2.len).2 }
        ch3 := { a.ch3 with
          len := (tickLength pos a.regs.nr34 a.ch3.on a.ch3.len).1
          on := (tickLength pos a.regs.nr34 a.ch3.on a.ch3.len).2 }
        ch4 := { a.ch4 with
          len := (tickLength pos a.regs.nr44 a.ch4.on a.ch4.len).1
          on := (tickLength pos a.regs.nr44 a.ch4.on a.ch4.len).2 } } := by
  unfold lengthTick tickLength
  split <;> rfl

theorem envelopeTick_eq (pos : Nat) (a : Apu) :
    envelopeTick pos a =
      { a with
        ch1 := { a.ch1 with
          envTimer := (tickEnvelope pos a.regs.nr12 a.ch1.envTimer a.ch1.vol).1
          vol := (tickEnvelope pos a.regs.nr12 a.ch1.envTimer a.ch1.vol).2 }
        ch2 := { a.ch2 with
          envTimer := (tickEnvelope pos a.regs.nr22 a.ch2.envTimer a.ch2.vol).1
          vol := (tickEnvelope pos a.regs.nr22 a.ch2.envTimer a.ch2.vol).2 }
        ch4 := { a.ch4 with
          envTimer := (tickEnvelope pos a.regs.nr42 a.ch4.envTimer a.ch4.vol).1
          vol := (tickEnvelope pos a.regs.nr42 a.ch4.envTimer a.ch4.vol).2 } } := by
  unfold envelopeTick tickEnvelope
  split <;> rfl

/-! ### The length counters and the envelopes -/

/-- A length counter counts in a tick (R491). -/
def LengthCounts (pos : Nat) (nr4 : Byte) (len : Nat) : Prop := pos % 2 = 0 ∧ nr4.getLsbD 6 = true ∧ 0 < len

theorem tickLength_of_counts {pos : Nat} {nr4 : Byte} {len : Nat} (h : LengthCounts pos nr4 len) (on : Bool) :
    tickLength pos nr4 on len = (len - 1, on && decide (len ≠ 1)) := by
  obtain ⟨heven, henabled, hpos⟩ := h
  simp [tickLength, lengthStep, heven, henabled, hpos]

theorem tickLength_of_not_counts {pos : Nat} {nr4 : Byte} {len : Nat} (h : ¬LengthCounts pos nr4 len) (on : Bool) :
    tickLength pos nr4 on len = (len, on) := by
  unfold tickLength lengthStep
  split
  case isFalse => rfl
  case isTrue heven =>
    refine if_neg fun hcounts => h ?_
    simpa [LengthCounts, heven] using hcounts

theorem tickLength_len (pos : Nat) (nr4 : Byte) (on : Bool) (len : Nat) :
    (LengthCounts pos nr4 len → (tickLength pos nr4 on len).1 = len - 1) ∧
      (¬LengthCounts pos nr4 len → (tickLength pos nr4 on len).1 = len) :=
  ⟨fun h => by rw [tickLength_of_counts h], fun h => by rw [tickLength_of_not_counts h]⟩

/-- A channel goes off when its counter counts to 0. -/
theorem tickLength_on (pos : Nat) (nr4 : Byte) (on : Bool) (len : Nat) :
    (tickLength pos nr4 on len).2 = true ↔ on = true ∧ ¬(LengthCounts pos nr4 len ∧ len = 1) := by
  by_cases h : LengthCounts pos nr4 len
  · simp [tickLength_of_counts h, h]
  · simp [tickLength_of_not_counts h, h]

theorem tickLength_le (pos : Nat) (nr4 : Byte) (on : Bool) (len : Nat) : (tickLength pos nr4 on len).1 ≤ len := by
  by_cases h : LengthCounts pos nr4 len
  · simp [tickLength_of_counts h]
  · simp [tickLength_of_not_counts h]

theorem envelopeStep_volume (nr2 : Byte) (vol : BitVec 4) :
    (if nr2.getLsbD 3 then (if vol.toNat < 15 then vol + 1 else vol)
      else (if 0 < vol.toNat then vol - 1 else vol)).toNat =
      if nr2.getLsbD 3 then min 15 (vol.toNat + 1) else vol.toNat - 1 := by
  have table : ∀ (up : Bool) (vol : BitVec 4),
      (if up then (if vol.toNat < 15 then vol + 1 else vol) else (if 0 < vol.toNat then vol - 1 else vol)).toNat =
        if up then min 15 (vol.toNat + 1) else vol.toNat - 1 := by decide
  exact table _ vol

/-- What an envelope does in a tick: it steps when its timer comes to 0, it counts, or it rests (R492). -/
theorem tickEnvelope_spec (pos : Nat) (nr2 : Byte) (timer : Nat) (vol : BitVec 4) :
    (pos = 7 → nr2.toNat % 8 ≠ 0 → timer = 1 →
        (tickEnvelope pos nr2 timer vol).1 = nr2.toNat % 8 ∧
          (tickEnvelope pos nr2 timer vol).2.toNat =
            if nr2.getLsbD 3 then min 15 (vol.toNat + 1) else vol.toNat - 1) ∧
      (pos = 7 → nr2.toNat % 8 ≠ 0 → timer ≠ 1 →
        (tickEnvelope pos nr2 timer vol).1 = timer - 1 ∧ (tickEnvelope pos nr2 timer vol).2 = vol) ∧
      (pos ≠ 7 ∨ nr2.toNat % 8 = 0 →
        (tickEnvelope pos nr2 timer vol).1 = timer ∧ (tickEnvelope pos nr2 timer vol).2 = vol) := by
  refine ⟨fun hpos hperiod htimer => ?steps, fun hpos hperiod htimer => ?counts, fun hrests => ?rests⟩
  case steps =>
    simp only [tickEnvelope, envelopeStep, envPeriod, hpos, hperiod, htimer, if_true, if_false]
    exact ⟨trivial, envelopeStep_volume nr2 vol⟩
  case counts => simp [tickEnvelope, envelopeStep, envPeriod, hpos, hperiod, htimer]
  case rests =>
    rcases hrests with hpos | hperiod
    · simp [tickEnvelope, hpos]
    · simp [tickEnvelope, envelopeStep, envPeriod, hperiod]

theorem tickEnvelope_le (pos : Nat) (nr2 : Byte) {timer : Nat} (vol : BitVec 4) (h : timer ≤ 8) :
    (tickEnvelope pos nr2 timer vol).1 ≤ 8 := by
  obtain ⟨hsteps, hcounts, hrests⟩ := tickEnvelope_spec pos nr2 timer vol
  by_cases hidle : pos ≠ 7 ∨ nr2.toNat % 8 = 0
  · rw [(hrests hidle).1]
    exact h
  obtain ⟨hpos, hperiod⟩ : pos = 7 ∧ nr2.toNat % 8 ≠ 0 := by simpa using hidle
  by_cases htimer : timer = 1
  · rw [(hsteps hpos hperiod htimer).1]
    omega
  · rw [(hcounts hpos hperiod htimer).1]
    omega

/-! ### The sweep -/

theorem orEight_le {n : Nat} (h : n ≤ 8) : orEight n ≤ 8 := by
  unfold orEight
  split <;> omega

theorem sweepPeriod_le (g : ApuRegs) : sweepPeriod g ≤ 8 := by
  unfold sweepPeriod
  omega

/-- The sweep timer after a sweep event. -/
def nextSweepTimer (a : Apu) : Nat := if a.sweep.timer = 1 then orEight (sweepPeriod a.regs) else a.sweep.timer - 1

/-- The sweep makes its calculation in a tick: its timer runs out, it is active, and it has a period (R493). -/
def SweepRuns (pos : Nat) (a : Apu) : Prop :=
  (pos = 2 ∨ pos = 6) ∧ a.sweep.timer = 1 ∧ a.sweep.on = true ∧ sweepPeriod a.regs ≠ 0

/-- The sweep replaces the frequency in a tick (R493). -/
def SweepUpdates (pos : Nat) (a : Apu) : Prop := SweepRuns pos a ∧ sweepCalc a ≤ 2047 ∧ sweepShift a.regs ≠ 0

/-- One of the overflow checks of the sweep in a tick switches channel 1 off (R493). -/
def SweepOverflows (pos : Nat) (a : Apu) : Prop :=
  SweepRuns pos a ∧ (2047 < sweepCalc a ∨ (sweepShift a.regs ≠ 0 ∧ 2047 < sweptFreq a.regs (sweepCalc a)))

theorem sweepEvent_rests {a : Apu} (h : ¬(a.sweep.timer = 1 ∧ a.sweep.on = true ∧ sweepPeriod a.regs ≠ 0)) :
    sweepEvent a = { a with sweep := { a.sweep with timer := nextSweepTimer a } } := by
  unfold sweepEvent nextSweepTimer
  split
  case isTrue htimer => exact if_neg fun hactive => h ⟨htimer, hactive⟩
  case isFalse => rfl

theorem sweepEvent_runs {a : Apu} (h : a.sweep.timer = 1 ∧ a.sweep.on = true ∧ sweepPeriod a.regs ≠ 0) :
    sweepEvent a = sweepUpdate { a with sweep := { a.sweep with timer := nextSweepTimer a } } := by
  obtain ⟨htimer, hactive⟩ := h
  unfold sweepEvent nextSweepTimer
  rw [if_pos htimer, if_pos htimer]
  exact if_pos hactive

/-- The update puts the new frequency in place and checks the one after it. -/
theorem sweepUpdate_of_fits {a : Apu} (h : sweepCalc a ≤ 2047 ∧ sweepShift a.regs ≠ 0) :
    sweepUpdate a =
      { setSweepFreq (BitVec.ofNat 11 (sweepCalc a)) a with
        ch1 := { a.ch1 with on := a.ch1.on && decide (sweptFreq a.regs (sweepCalc a) ≤ 2047) } } := by
  have hshadow : (BitVec.ofNat 11 (sweepCalc a)).toNat = sweepCalc a := by
    rw [BitVec.toNat_ofNat, Nat.mod_eq_of_lt (by omega)]
  have hnext : sweepCalc (setSweepFreq (BitVec.ofNat 11 (sweepCalc a)) (sweepCheck a)) =
      sweptFreq a.regs (sweepCalc a) := by
    rw [sweepCheck_eq, sweepCalc_eq]
    exact congrArg (sweptFreq a.regs) hshadow
  have hupdate : sweepUpdate a = sweepCheck (setSweepFreq (BitVec.ofNat 11 (sweepCalc a)) (sweepCheck a)) := if_pos h
  rw [hupdate, sweepCheck_eq, hnext, sweepCheck_eq]
  simp [setSweepFreq, h.1]

theorem sweepUpdate_of_not_fits {a : Apu} (h : ¬(sweepCalc a ≤ 2047 ∧ sweepShift a.regs ≠ 0)) :
    sweepUpdate a = { a with ch1 := { a.ch1 with on := a.ch1.on && decide (sweepCalc a ≤ 2047) } } := by
  rw [← sweepCheck_eq]
  exact if_neg h

/-- Everything the sweep does in a tick (R493): its timer; the switch of channel 1; and the frequency, in the shadow and
in the two registers. -/
theorem sweepTick_spec (pos : Nat) (a : Apu) :
    ∃ on timer shadow nr13 nr14,
      sweepTick pos a =
        { a with
          ch1 := { a.ch1 with on := on }
          sweep := { a.sweep with timer := timer, shadow := shadow }
          regs := { a.regs with nr13 := nr13, nr14 := nr14 } } ∧
        (on = true ↔ a.ch1.on = true ∧ ¬SweepOverflows pos a) ∧
        timer = (if pos = 2 ∨ pos = 6 then nextSweepTimer a else a.sweep.timer) ∧
        (SweepUpdates pos a → shadow = BitVec.ofNat 11 (sweepCalc a) ∧ nr13 = shadow.extractLsb' 0 8 ∧
          nr14 = setFreqHigh a.regs.nr14 shadow) ∧
        (¬SweepUpdates pos a → shadow = a.sweep.shadow ∧ nr13 = a.regs.nr13 ∧ nr14 = a.regs.nr14) := by
  unfold sweepTick
  by_cases hpos : pos = 2 ∨ pos = 6
  case neg =>
    have hruns : ¬SweepRuns pos a := fun h => hpos h.1
    rw [if_neg hpos, if_neg hpos]
    exact ⟨_, _, _, _, _, rfl, by simp [SweepOverflows, hruns], rfl, fun h => absurd h.1 hruns,
      fun _ => ⟨rfl, rfl, rfl⟩⟩
  rw [if_pos hpos, if_pos hpos]
  by_cases hactive : a.sweep.timer = 1 ∧ a.sweep.on = true ∧ sweepPeriod a.regs ≠ 0
  case neg =>
    have hruns : ¬SweepRuns pos a := fun h => hactive h.2
    exact ⟨_, _, _, _, _, sweepEvent_rests hactive, by simp [SweepOverflows, hruns], rfl, fun h => absurd h.1 hruns,
      fun _ => ⟨rfl, rfl, rfl⟩⟩
  have hruns : SweepRuns pos a := ⟨hpos, hactive⟩
  rw [sweepEvent_runs hactive]
  by_cases hfits : sweepCalc a ≤ 2047 ∧ sweepShift a.regs ≠ 0
  case neg =>
    refine ⟨_, _, _, _, _, sweepUpdate_of_not_fits hfits, ?_, rfl, fun h => absurd h.2 hfits, fun _ => ⟨rfl, rfl, rfl⟩⟩
    have hoverflows : SweepOverflows pos a ↔ ¬sweepCalc a ≤ 2047 := by
      simp only [SweepOverflows, hruns, true_and, Nat.not_le]
      refine ⟨fun h => h.elim id fun h => ?_, .inl⟩
      exact Nat.lt_of_not_le fun hle => hfits ⟨hle, h.1⟩
    rw [hoverflows, not_not, Bool.and_eq_true, decide_eq_true_iff]
    exact Iff.rfl
  case pos =>
    refine ⟨_, _, _, _, _, sweepUpdate_of_fits hfits, ?_, rfl, fun _ => ⟨rfl, rfl, rfl⟩,
      fun h => absurd ⟨hruns, hfits⟩ h⟩
    have hoverflows : SweepOverflows pos a ↔ ¬sweptFreq a.regs (sweepCalc a) ≤ 2047 := by
      simp [SweepOverflows, hruns, hfits.2, Nat.not_lt.2 hfits.1]
    rw [hoverflows, not_not, Bool.and_eq_true, decide_eq_true_iff]
    exact Iff.rfl

/-! ### The tick -/

theorem sequencerTick_eq (a : Apu) :
    sequencerTick a =
      { envelopeTick a.seqPos.toNat (sweepTick a.seqPos.toNat (lengthTick a.seqPos.toNat a)) with
        seqPos := a.seqPos + 1 } := by
  obtain ⟨_, _, _, _, _, hsweep, -⟩ := sweepTick_spec a.seqPos.toNat (lengthTick a.seqPos.toNat a)
  unfold sequencerTick
  rw [sequencerEvents_eq a.seqPos.isLt, envelopeTick_eq, hsweep, lengthTick_eq]

/-- A register with its low three bits replaced. -/
theorem setFreqHigh_bits : ∀ (nr14 : Byte) (high : BitVec 3),
    ((nr14 &&& 0xF8) ||| high.setWidth 8).toNat = nr14.toNat / 8 * 8 + high.toNat := by decide

/-- The two registers that hold a frequency: its low byte, and its high three bits under the other bits (R484). -/
theorem freq_bytes (nr14 : Byte) {f : Nat} (h : f ≤ 2047) :
    ((BitVec.ofNat 11 f).extractLsb' 0 8).toNat = f % 256 ∧
      (setFreqHigh nr14 (BitVec.ofNat 11 f)).toNat = nr14.toNat / 8 * 8 + f / 256 := by
  have hf : (BitVec.ofNat 11 f).toNat = f := Nat.mod_eq_of_lt (Nat.lt_succ_of_le h)
  constructor
  · rw [BitVec.extractLsb'_toNat, hf, Nat.shiftRight_zero]
  · rw [setFreqHigh, setFreqHigh_bits, BitVec.extractLsb'_toNat, hf, Nat.shiftRight_eq_div_pow]
    omega

/-- Settles O39: a tick is its length, sweep and envelope parts, one after the other, each with its frame. -/
theorem frameSequencerTick : Obligations.FrameSequencerTick := by
  unfold Obligations.FrameSequencerTick
  intro a
  obtain ⟨on, timer, shadow, nr13, nr14, hsweep, hon, htimer, hupdates, hrests⟩ :=
    sweepTick_spec a.seqPos.toNat (lengthTick a.seqPos.toNat a)
  rw [lengthTick_eq] at hsweep hon htimer hupdates hrests
  rw [sequencerTick_eq, lengthTick_eq, hsweep, envelopeTick_eq]
  refine ⟨rfl, BitVec.toNat_add _ _, tickLength_len _ _ _ _, tickLength_len _ _ _ _, tickLength_len _ _ _ _,
    tickLength_len _ _ _ _, ?ch1, tickLength_on _ _ _ _, tickLength_on _ _ _ _, tickLength_on _ _ _ _,
    tickEnvelope_spec _ _ _ _, tickEnvelope_spec _ _ _ _, tickEnvelope_spec _ _ _ _, fun hpos h => ?runsOut,
    fun hpos h => ?counts, fun hpos => htimer.trans (if_neg hpos), fun h => ?updates, fun h => ?rests⟩
  case ch1 =>
    refine hon.trans ?_
    rw [tickLength_on, and_assoc]
    exact Iff.rfl
  case runsOut => exact htimer.trans ((if_pos hpos).trans (if_pos h))
  case counts => exact htimer.trans ((if_pos hpos).trans (if_neg h))
  case updates =>
    obtain ⟨rfl, rfl, rfl⟩ := hupdates h
    obtain ⟨hlow, hhigh⟩ := freq_bytes a.regs.nr14 h.2.1
    exact ⟨by rw [BitVec.toNat_ofNat]; exact Nat.mod_eq_of_lt (Nat.lt_succ_of_le h.2.1), hlow, hhigh⟩
  case rests =>
    obtain ⟨rfl, rfl, rfl⟩ := hrests h
    exact ⟨rfl, rfl⟩

/-! ## The invariant of the sound counters -/

/-- The counters of the APU are in their ranges (R484, R494). -/
structure CountersInRange (a : Apu) : Prop where
  len1 : a.ch1.len ≤ 64
  len2 : a.ch2.len ≤ 64
  len3 : a.ch3.len ≤ 256
  len4 : a.ch4.len ≤ 64
  env1 : a.ch1.envTimer ≤ 8
  env2 : a.ch2.envTimer ≤ 8
  env4 : a.ch4.envTimer ≤ 8
  sweep : a.sweep.timer ≤ 8
  seqDivStep : a.seqDiv % 4 = 0
  seqDivLe : a.seqDiv ≤ 8188
  sampleAcc : a.sampleAcc < clockRate

/-- Nothing is stored and no channel is on while the APU is off (R486). -/
def ClearWhileOff (a : Apu) : Prop :=
  a.power = false →
    a.regs = ApuRegs.off ∧ a.ch1.on = false ∧ a.ch2.on = false ∧ a.ch3.on = false ∧ a.ch4.on = false

theorem apuInv_iff (s : State) : ApuInv s ↔ CountersInRange s.apu ∧ ClearWhileOff s.apu := by
  constructor
  · rintro ⟨h1, h2, h3, h4, h5, h6, h7, h8, h9, h10, h11, h12⟩
    exact ⟨⟨h1, h2, h3, h4, h5, h6, h7, h8, h9, h10, h11⟩, h12⟩
  · rintro ⟨⟨h1, h2, h3, h4, h5, h6, h7, h8, h9, h10, h11⟩, h12⟩
    exact ⟨h1, h2, h3, h4, h5, h6, h7, h8, h9, h10, h11, h12⟩

theorem clearWhileOff_of_on {a : Apu} (h : a.power = true) : ClearWhileOff a := by simp [ClearWhileOff, h]

/-! ### Stores -/

theorem lengthLoad_le (v : Byte) : lengthLoad v ≤ 64 := Nat.sub_le _ _

theorem envPeriod_le (nrx2 : Byte) : envPeriod nrx2 ≤ 8 := by
  unfold envPeriod
  omega

/-- A trigger reloads a length counter that has run out (R490). -/
theorem triggerLength_le {len n : Nat} (h : len ≤ n) : (if len = 0 then n else len) ≤ n := by split <;> omega

theorem trigger1_inRange {a : Apu} (h : CountersInRange a) : CountersInRange (trigger1 a) := by
  rw [trigger1_eq]
  exact { h with
    len1 := triggerLength_le h.len1, env1 := orEight_le (envPeriod_le _), sweep := orEight_le (sweepPeriod_le _) }

/-- The action of a store loads a length counter, switches a channel off, or triggers a channel (R482). -/
theorem apuAction_inRange (r : ApuReg) (v : Byte) {a : Apu} (h : CountersInRange a) :
    CountersInRange (apuAction r v a) := by
  cases r
  case nr11 => exact { h with len1 := lengthLoad_le v }
  case nr21 => exact { h with len2 := lengthLoad_le v }
  case nr41 => exact { h with len4 := lengthLoad_le v }
  case nr31 => exact { h with len3 := Nat.sub_le _ _ }
  case nr12 => exact { h with }
  case nr22 => exact { h with }
  case nr42 => exact { h with }
  case nr30 => exact { h with }
  case nr14 =>
    simp only [apuAction]
    split
    · exact trigger1_inRange h
    · exact h
  case nr24 =>
    simp only [apuAction]
    split
    · exact { h with len2 := triggerLength_le h.len2, env2 := orEight_le (envPeriod_le _) }
    · exact h
  case nr34 =>
    simp only [apuAction]
    split
    · exact { h with len3 := triggerLength_le h.len3 }
    · exact h
  case nr44 =>
    simp only [apuAction]
    split
    · exact { h with len4 := triggerLength_le h.len4, env4 := orEight_le (envPeriod_le _) }
    · exact h
  all_goals exact h

theorem apuAction_power (r : ApuReg) (v : Byte) (a : Apu) : (apuAction r v a).power = a.power := by
  cases r
  case nr14 => simp only [apuAction, trigger1_eq]; split <;> rfl
  case nr24 => simp only [apuAction]; split <;> rfl
  case nr34 => simp only [apuAction]; split <;> rfl
  case nr44 => simp only [apuAction]; split <;> rfl
  all_goals rfl

theorem writeApuReg_of_on {a : Apu} (r : ApuReg) (v : Byte) (h : a.power = true) :
    writeApuReg r v a = apuAction r v { a with regs := a.regs.put r (storedByte r v) } := if_pos h

theorem writeApuReg_of_off {a : Apu} (r : ApuReg) (v : Byte) (h : a.power = false) : writeApuReg r v a = a := by
  simp [writeApuReg, h]

theorem writeApuReg_apuInv (r : ApuReg) (v : Byte) {s : State} (h : ApuInv s) :
    ApuInv { s with apu := writeApuReg r v s.apu } := by
  cases hpower : s.apu.power
  case false =>
    rw [writeApuReg_of_off r v hpower]
    exact h
  case true =>
    rw [writeApuReg_of_on r v hpower]
    exact (apuInv_iff _).2 ⟨apuAction_inRange r v { ((apuInv_iff s).1 h).1 with },
      clearWhileOff_of_on ((apuAction_power r v _).trans hpower)⟩

/-! A store to `NR52` switches the APU off, switches it on, or does nothing (R483). -/

theorem writeNr52_off {v : Byte} {a : Apu} (hon : a.power = true) (h : v.getLsbD 7 = false) :
    writeNr52 v a = apuSwitchedOff a := by rw [writeNr52, hon, h]

theorem writeNr52_on {v : Byte} {a : Apu} (hoff : a.power = false) (h : v.getLsbD 7 = true) :
    writeNr52 v a = { a with power := true, seqPos := 0, seqDiv := 0 } := by rw [writeNr52, hoff, h]

theorem writeNr52_same {v : Byte} {a : Apu} (h : a.power = v.getLsbD 7) : writeNr52 v a = a := by
  rw [writeNr52, ← h]
  cases a.power <;> rfl

theorem apuSwitchedOff_inRange (a : Apu) : CountersInRange (apuSwitchedOff a) where
  len1 := Nat.zero_le _
  len2 := Nat.zero_le _
  len3 := Nat.zero_le _
  len4 := Nat.zero_le _
  env1 := Nat.zero_le _
  env2 := Nat.zero_le _
  env4 := Nat.zero_le _
  sweep := Nat.zero_le _
  seqDivStep := rfl
  seqDivLe := Nat.zero_le _
  sampleAcc := show 0 < clockRate by decide

theorem writeNr52_apuInv (v : Byte) {s : State} (h : ApuInv s) : ApuInv { s with apu := writeNr52 v s.apu } := by
  cases hpower : s.apu.power <;> cases hv : v.getLsbD 7
  case true.false =>
    rw [writeNr52_off hpower hv]
    exact (apuInv_iff _).2 ⟨apuSwitchedOff_inRange s.apu, fun _ => ⟨rfl, rfl, rfl, rfl, rfl⟩⟩
  case false.true =>
    rw [writeNr52_on hpower hv]
    exact (apuInv_iff _).2 ⟨{ ((apuInv_iff s).1 h).1 with seqDivStep := rfl, seqDivLe := Nat.zero_le _ },
      clearWhileOff_of_on rfl⟩
  all_goals
    rw [writeNr52_same (hpower.trans hv.symm)]
    exact h

/-- Of the stores only those to the sound registers touch the APU. -/
theorem busWrite_apuInv (a : Word) (v : Byte) {s : State} (h : ApuInv s) : ApuInv (busWrite a v s) := by
  unfold busWrite
  generalize regionOf s.bootEnabled a.toNat = r
  cases r
  case io r =>
    cases r
    case apu r => exact writeApuReg_apuInv r v h
    case nr52 => exact writeNr52_apuInv v h
    all_goals exact h
  case vram k => simp only [regionWrite]; split <;> exact h
  case oam k => simp only [regionWrite]; split <;> exact h
  all_goals exact h

/-! ### A machine cycle -/

theorem sequencerTick_inRange {a : Apu} (h : CountersInRange a) : CountersInRange (sequencerTick a) := by
  obtain ⟨on, timer, shadow, nr13, nr14, hsweep, -, htimer, -⟩ :=
    sweepTick_spec a.seqPos.toNat (lengthTick a.seqPos.toNat a)
  have htimer_le : timer ≤ 8 := by
    rw [htimer, lengthTick_eq, nextSweepTimer]
    split
    · split
      · exact orEight_le (sweepPeriod_le _)
      · exact (Nat.sub_le _ _).trans h.sweep
    · exact h.sweep
  rw [lengthTick_eq] at hsweep
  rw [sequencerTick_eq, lengthTick_eq, hsweep, envelopeTick_eq]
  exact { h with
    len1 := (tickLength_le _ _ _ _).trans h.len1
    len2 := (tickLength_le _ _ _ _).trans h.len2
    len3 := (tickLength_le _ _ _ _).trans h.len3
    len4 := (tickLength_le _ _ _ _).trans h.len4
    env1 := tickEnvelope_le _ _ _ h.env1
    env2 := tickEnvelope_le _ _ _ h.env2
    env4 := tickEnvelope_le _ _ _ h.env4
    sweep := htimer_le }

/-- A tick is an event of the sequencer, the channels and the sweep: the power, the divider and the sample clock are
not its business. -/
theorem sequencerTick_keeps (a : Apu) :
    (sequencerTick a).power = a.power ∧ (sequencerTick a).seqDiv = a.seqDiv ∧
      (sequencerTick a).sampleAcc = a.sampleAcc := by
  obtain ⟨hframe, -⟩ := frameSequencerTick a
  rw [hframe]
  exact ⟨rfl, rfl, rfl⟩

theorem sequencerStep_inRange {a : Apu} (h : CountersInRange a) : CountersInRange (sequencerStep a) := by
  unfold sequencerStep
  split
  case isTrue => exact sequencerTick_inRange { h with seqDivStep := rfl, seqDivLe := Nat.zero_le _ }
  case isFalse hwrap =>
    have hstep := h.seqDivStep
    have hle := h.seqDivLe
    exact { h with
      seqDivStep := show (a.seqDiv + 4) % 4 = 0 by omega
      seqDivLe := show a.seqDiv + 4 ≤ 8188 by omega }

theorem sequencerStep_keeps (a : Apu) :
    (sequencerStep a).power = a.power ∧ (sequencerStep a).sampleAcc = a.sampleAcc := by
  unfold sequencerStep
  split
  · obtain ⟨hpower, -, hacc⟩ := sequencerTick_keeps { a with seqDiv := 0 }
    exact ⟨hpower, hacc⟩
  · exact ⟨rfl, rfl⟩

theorem waveTimer_eq (c period : Nat) (wave : Memory) (w : Wave) :
    waveTimer c period wave w =
      { w with
        timer := (countDown c period w.timer).1
        pos := w.pos + BitVec.ofNat 5 (countDown c period w.timer).2
        sample :=
          if (countDown c period w.timer).2 = 0 then w.sample
          else waveSample wave (w.pos + BitVec.ofNat 5 (countDown c period w.timer).2) } := rfl

theorem noiseTimer_eq (c period : Nat) (narrow : Bool) (n : Noise) :
    noiseTimer c period narrow n =
      { n with
        timer := (countDown c period n.timer).1
        lfsr := iterate (lfsrStep narrow) (countDown c period n.timer).2 n.lfsr } := rfl

/-- The channel timers move no length counter and no envelope. -/
theorem channelTimers_inRange (c : Nat) (wave : Memory) {a : Apu} (h : CountersInRange a) :
    CountersInRange (channelTimers c wave a) := by
  have hch1 (p : Pulse) (e : Bool) (period : Nat) (nr1 : Byte) :
      (if e then pulseTimer c period nr1 p else p).len = p.len ∧
        (if e then pulseTimer c period nr1 p else p).envTimer = p.envTimer := by
    cases e <;> exact ⟨rfl, rfl⟩
  have hch3 (e : Bool) (period : Nat) : (if e then waveTimer c period wave a.ch3 else a.ch3).len = a.ch3.len := by
    cases e <;> rfl
  have hch4 (e : Bool) (period : Nat) (narrow : Bool) :
      (if e then noiseTimer c period narrow a.ch4 else a.ch4).len = a.ch4.len ∧
        (if e then noiseTimer c period narrow a.ch4 else a.ch4).envTimer = a.ch4.envTimer := by
    cases e <;> exact ⟨rfl, rfl⟩
  exact { h with
    len1 := (hch1 a.ch1 _ _ _).1.trans_le h.len1
    len2 := (hch1 a.ch2 _ _ _).1.trans_le h.len2
    len3 := (hch3 _ _).trans_le h.len3
    len4 := (hch4 _ _ _).1.trans_le h.len4
    env1 := (hch1 a.ch1 _ _ _).2.trans_le h.env1
    env2 := (hch1 a.ch2 _ _ _).2.trans_le h.env2
    env4 := (hch4 _ _ _).2.trans_le h.env4 }

theorem sampleClock_inRange (c : Nat) {a : Apu} (h : CountersInRange a) : CountersInRange (sampleClock c a) := by
  rw [sampleClock_frame]
  exact { h with sampleAcc := Nat.mod_lt _ (by decide) }

theorem sampleClock_clearWhileOff (c : Nat) {a : Apu} (h : ClearWhileOff a) : ClearWhileOff (sampleClock c a) := by
  rw [sampleClock_frame]
  exact h

theorem machineCycle_apuInv {s : State} (h : ApuInv s) : ApuInv (machineCycle s) := by
  obtain ⟨hrange, hclear⟩ := (apuInv_iff s).1 h
  rw [apuInv_iff, machineCycle_apu, apuTick]
  split
  case isTrue hpower =>
    exact ⟨sampleClock_inRange 4 (channelTimers_inRange 4 _ (sequencerStep_inRange hrange)),
      sampleClock_clearWhileOff 4 (clearWhileOff_of_on ((sequencerStep_keeps s.apu).1.trans hpower))⟩
  case isFalse => exact ⟨sampleClock_inRange 4 hrange, sampleClock_clearWhileOff 4 hclear⟩

/-- Settles O55: of the parts of a step only a store to a sound register and a machine cycle touch the APU. -/
theorem stepKeepsApuInv : Obligations.StepKeepsApuInv := by
  unfold Obligations.StepKeepsApuInv
  intro s t h hst
  refine step_invariant_of_frame (P := ApuInv) ?frame ?store ?dma ?cycle h hst
  case frame => exact fun _ _ _ _ _ _ _ _ _ h => h
  case store => exact fun a v _ h => busWrite_apuInv a v h
  case dma => exact fun _ _ _ h => h
  case cycle => exact fun _ h => machineCycle_apuInv h

/-! ## The sound registers -/

/-- An address is that of a sound register (R100). -/
abbrev IsSoundAddress (addr : Word) (r : ApuReg) : Prop :=
  0xFF00 ≤ addr.toNat ∧ addr.toNat < 0xFF80 ∧ ioReg (addr.toNat % 0x100) = .apu r

theorem busRead_sound {addr : Word} {r : ApuReg} (h : IsSoundAddress addr r) (s : State) :
    busRead s addr = s.apu.regs.get r ||| r.readMask := by
  obtain ⟨hlow, hhigh, hreg⟩ := h
  rw [busRead_io s hlow hhigh, hreg]
  rfl

theorem busWrite_sound {addr : Word} {r : ApuReg} (h : IsSoundAddress addr r) (v : Byte) (s : State) :
    busWrite addr v s = { s with apu := writeApuReg r v s.apu } := by
  obtain ⟨hlow, hhigh, hreg⟩ := h
  rw [busWrite_io s v hlow hhigh, hreg]
  rfl

theorem busWrite_sound_of_on {addr : Word} {r : ApuReg} (h : IsSoundAddress addr r) (v : Byte) {s : State}
    (hon : s.apu.power = true) :
    busWrite addr v s =
      { s with apu := apuAction r v { s.apu with regs := s.apu.regs.put r (storedByte r v) } } := by
  rw [busWrite_sound h, writeApuReg_of_on r v hon]

theorem busWrite_sound_of_off {addr : Word} {r : ApuReg} (h : IsSoundAddress addr r) (v : Byte) {s : State}
    (hoff : s.apu.power = false) : busWrite addr v s = s := by
  rw [busWrite_sound h, writeApuReg_of_off r v hoff]

/-- A row of the table of R481 is a sound register. -/
def IsSoundRow (row : SoundRow) (r : ApuReg) : Prop :=
  IsSoundAddress row.address r ∧ row.mask = r.readMask ∧ (∀ g, row.get g = g.get r) ∧ ∀ v g, row.put v g = g.put r v

theorem plainSoundRows_reg {row : SoundRow} (h : row ∈ plainSoundRows) :
    ∃ r, IsSoundRow row r ∧ ∀ v a, apuAction r v a = a ∧ storedByte r v = v := by
  simp only [plainSoundRows, List.mem_cons, List.not_mem_nil, or_false] at h
  rcases h with rfl | rfl | rfl | rfl | rfl | rfl | rfl | rfl <;>
    exact ⟨_, ⟨⟨by decide, by decide, rfl⟩, rfl, fun _ => rfl, fun _ _ => rfl⟩, fun _ _ => ⟨rfl, rfl⟩⟩

theorem soundRows_reg {row : SoundRow} (h : row ∈ plainSoundRows ++ actingSoundRows) : ∃ r, IsSoundRow row r := by
  rcases List.mem_append.1 h with h | h
  · obtain ⟨r, hrow, -⟩ := plainSoundRows_reg h
    exact ⟨r, hrow⟩
  simp only [actingSoundRows, List.mem_cons, List.not_mem_nil, or_false] at h
  rcases h with rfl | rfl | rfl | rfl | rfl | rfl | rfl | rfl | rfl | rfl | rfl | rfl <;>
    exact ⟨_, ⟨⟨by decide, by decide, rfl⟩, rfl, fun _ => rfl, fun _ _ => rfl⟩⟩

theorem apuRegs_off_get (r : ApuReg) : ApuRegs.off.get r = 0 := by cases r <;> rfl

theorem dacOn_eq (nrx2 : Byte) : dacOn nrx2 = decide (nrx2.toNat / 8 ≠ 0) := by
  unfold dacOn
  congr 1
  rw [eq_iff_iff]
  omega

theorem and_dacOn (on : Bool) (v : Byte) : (on && dacOn v) = if v.toNat / 8 = 0 then false else on := by
  rw [dacOn_eq]
  split <;> simp [*]

/-- The trigger bit is not stored (R482). -/
theorem and_0x7F_eq : ∀ v : Byte, v &&& 0x7F = BitVec.ofNat 8 (v.toNat % 128) := by decide

theorem and_0x7F_of_no_trigger : ∀ v : Byte, v.getLsbD 7 = false → v &&& 0x7F = v := by decide

/-- The registers `NRn4`, whose bit 7 triggers (R482). -/
def triggerRegs : List ApuReg := [.nr14, .nr24, .nr34, .nr44]

/-- Without the trigger bit a store to `NRn4` only stores, and the whole byte. -/
theorem store_untriggered {r : ApuReg} (hr : r ∈ triggerRegs) {v : Byte} (h : v.getLsbD 7 = false) (a : Apu) :
    apuAction r v a = a ∧ storedByte r v = v := by
  have hstored := and_0x7F_of_no_trigger v h
  simp only [triggerRegs, List.mem_cons, List.not_mem_nil, or_false] at hr
  rcases hr with rfl | rfl | rfl | rfl <;> exact ⟨by rw [apuAction, h]; rfl, hstored⟩

theorem readNr52_bits : ∀ power on4 on3 on2 on1 : Bool,
    (bitAt 7 power ||| 0x70 ||| bitAt 3 on4 ||| bitAt 2 on3 ||| bitAt 1 on2 ||| bitAt 0 on1).toNat =
      128 * power.toNat + 0x70 + 8 * on4.toNat + 4 * on3.toNat + 2 * on2.toNat + on1.toNat := by decide

theorem readNr52_toNat (a : Apu) :
    (readNr52 a).toNat =
      128 * a.power.toNat + 0x70 + 8 * (a.ch4.on && decide (a.regs.nr42.toNat / 8 ≠ 0)).toNat +
        4 * (a.ch3.on && a.regs.nr30.getLsbD 7).toNat + 2 * (a.ch2.on && decide (a.regs.nr22.toNat / 8 ≠ 0)).toNat +
        (a.ch1.on && decide (a.regs.nr12.toNat / 8 ≠ 0)).toNat := by
  simp only [← dacOn_eq]
  exact readNr52_bits _ _ _ _ _

theorem busWrite_nr52 (v : Byte) (s : State) : busWrite 0xFF26 v s = { s with apu := writeNr52 v s.apu } :=
  busWrite_io s v (by decide) (by decide)

/-- Settles O37: each load and each store is its handler's, row by row of R481, and `NR52` has the three cases of
`writeNr52_cases`. -/
theorem soundRegisters : Obligations.SoundRegisters := by
  unfold Obligations.SoundRegisters
  intro v s
  dsimp only
  refine ⟨fun row h => ?rows, fun hon row h => ?plain, fun hon => ?acting,
    (congrArg BitVec.toNat (busRead_io s (by decide) (by decide))).trans (readNr52_toNat s.apu), ?same, ?start, ?stop⟩
  case rows =>
    obtain ⟨r, haddress, hmask, hget, -⟩ := soundRows_reg h
    rw [busRead_sound haddress, hget, hmask]
    refine ⟨rfl, fun hinv hoff => ?_, busWrite_sound_of_off haddress v⟩
    rw [(((apuInv_iff s).1 hinv).2 hoff).1, apuRegs_off_get]
    exact BitVec.zero_or
  case plain =>
    obtain ⟨r, ⟨haddress, -, -, hput⟩, hplain⟩ := plainSoundRows_reg h
    rw [busWrite_sound_of_on haddress v hon, (hplain _ _).1, (hplain v s.apu).2, hput]
  case acting =>
    simp only [← and_dacOn]
    have store {addr : Word} (r : ApuReg) (h : IsSoundAddress addr r) := busWrite_sound_of_on h v hon
    refine ⟨store .nr11 (by decide), store .nr21 (by decide), store .nr31 (by decide), store .nr41 (by decide),
      store .nr12 (by decide), store .nr22 (by decide), store .nr30 (by decide), store .nr42 (by decide), fun h => ?_⟩
    have untriggered {addr : Word} (r : ApuReg) (haddress : IsSoundAddress addr r) (hr : r ∈ triggerRegs) :
        busWrite addr v s = { s with apu := { s.apu with regs := s.apu.regs.put r v } } := by
      rw [store r haddress, (store_untriggered hr h _).1, (store_untriggered hr h s.apu).2]
    exact ⟨untriggered .nr14 (by decide) (by decide), untriggered .nr24 (by decide) (by decide),
      untriggered .nr34 (by decide) (by decide), untriggered .nr44 (by decide) (by decide)⟩
  case same => exact fun h => by rw [busWrite_nr52, writeNr52_same h]
  case start => exact fun hoff h => by rw [busWrite_nr52, writeNr52_on hoff h]
  case stop =>
    intro hon h
    refine ⟨apuSwitchedOff s.apu, by rw [busWrite_nr52, writeNr52_off hon h], ?_⟩
    and_intros <;> rfl

/-! ## The triggers -/

theorem freqOf_and_0x7F (low v : Byte) : freqOf low (v &&& 0x7F) = v.toNat % 8 * 256 + low.toNat := by
  have hlow3 : ∀ v : Byte, (v &&& 0x7F).toNat % 8 = v.toNat % 8 := by decide
  rw [freqOf, hlow3]

theorem volume_eq (nrx2 : Byte) : nrx2.extractLsb' 4 4 = BitVec.ofNat 4 (nrx2.toNat / 16) := by
  rw [BitVec.extractLsb', Nat.shiftRight_eq_div_pow]

theorem storedDuty_eq (nrx1 : Byte) : storedDuty nrx1 = BitVec.ofNat 2 (nrx1.toNat / 64) := by
  rw [storedDuty, BitVec.extractLsb', Nat.shiftRight_eq_div_pow]

/-- Settles O38: a store with the trigger bit stores the rest of the byte and is the trigger of its channel. -/
theorem channelTriggers : Obligations.ChannelTriggers := by
  unfold Obligations.ChannelTriggers
  intro v s hon htrigger
  have store {addr : Word} (r : ApuReg) (h : IsSoundAddress addr r) := busWrite_sound_of_on h v hon
  dsimp only
  simp only [← and_0x7F_eq, ← freqOf_and_0x7F, ← volume_eq, ← storedDuty_eq]
  refine ⟨?ch1, ?ch2, ?ch3, ?ch4⟩
  case ch1 =>
    rw [store .nr14 (by decide), apuAction, htrigger, if_pos rfl, trigger1_eq]
    rfl
  case ch2 =>
    rw [store .nr24 (by decide), apuAction, htrigger]
    rfl
  case ch3 =>
    rw [store .nr34 (by decide), apuAction, htrigger]
    rfl
  case ch4 =>
    rw [store .nr44 (by decide), apuAction, htrigger]
    rfl

/-! ## The channel timers -/

theorem pulsePeriod_pos (nrx3 nrx4 : Byte) : 0 < pulsePeriod nrx3 nrx4 := by
  have hfreq := freqOf_lt nrx3 nrx4
  unfold pulsePeriod
  omega

theorem wavePeriod_pos (g : ApuRegs) : 0 < wavePeriod g := by
  have hfreq := freqOf_lt g.nr33 g.nr34
  unfold wavePeriod
  omega

theorem noisePeriod_pos (g : ApuRegs) : 0 < noisePeriod g := by
  have hdivisor : 0 < noiseDivisor (g.nr43.toNat % 8) := by
    unfold noiseDivisor
    split <;> omega
  exact Nat.mul_pos hdivisor (Nat.two_pow_pos _)

/-- A position in a cycle of `2 ^ w` goes on by the number of reloads. -/
theorem position_toNat {w : Nat} (p : BitVec w) (k : Nat) :
    (p + BitVec.ofNat w k).toNat = (p.toNat + k) % 2 ^ w := by
  rw [BitVec.toNat_add, BitVec.toNat_ofNat, Nat.add_mod_mod]

/-- What the timer of an enabled pulse channel does in a machine cycle (R482, R496). -/
theorem pulseTimer_spec {nr1 nr3 nr4 : Byte} {p q : Pulse} (h : q = pulseTimer 4 (pulsePeriod nr3 nr4) nr1 p) :
    ∃ k, (q.timer + 4 = p.timer + k * pulsePeriod nr3 nr4 ∧ 0 < q.timer ∧
        (k = 0 ∨ q.timer ≤ pulsePeriod nr3 nr4)) ∧
      q = { p with timer := q.timer, dutyPos := q.dutyPos, duty := q.duty } ∧
      q.dutyPos.toNat = (p.dutyPos.toNat + k) % 8 ∧
      q.duty.toNat = if k = 0 then p.duty.toNat else nr1.toNat / 64 := by
  subst h
  refine ⟨_, countDown_spec (pulsePeriod_pos nr3 nr4), rfl, position_toNat _ _, ?_⟩
  rw [pulseTimer_eq, apply_ite BitVec.toNat, storedDuty_toNat]

theorem waveSample_toNat (wave : Memory) (k : BitVec 5) :
    (waveSample wave k).toNat =
      if k.toNat % 2 = 0 then (wave.read (k.toNat / 2)).toNat / 16 else (wave.read (k.toNat / 2)).toNat % 16 := by
  have nibbles : ∀ v : Byte, (v.extractLsb' 0 4).toNat = v.toNat % 16 ∧ (v.extractLsb' 4 4).toNat = v.toNat / 16 := by
    decide
  have hodd : k.getLsbD 0 = true ↔ ¬k.toNat % 2 = 0 := by
    rw [BitVec.getLsbD, Nat.testBit_zero, decide_eq_true_iff]
    omega
  obtain ⟨hlow, hhigh⟩ := nibbles (wave.read (k.toNat / 2))
  simp only [waveSample, apply_ite BitVec.toNat, hlow, hhigh, hodd, ite_not]

/-- What the timer of channel 3 does in a machine cycle while it is enabled (R485, R496). -/
theorem waveTimer_spec {g : ApuRegs} {wave : Memory} {w q : Wave} (h : q = waveTimer 4 (wavePeriod g) wave w) :
    ∃ k, (q.timer + 4 = w.timer + k * wavePeriod g ∧ 0 < q.timer ∧ (k = 0 ∨ q.timer ≤ wavePeriod g)) ∧
      q = { w with timer := q.timer, pos := q.pos, sample := q.sample } ∧
      q.pos.toNat = (w.pos.toNat + k) % 32 ∧
      (k = 0 → q.sample = w.sample) ∧
      (k ≠ 0 → q.sample.toNat =
        if q.pos.toNat % 2 = 0 then (wave.read (q.pos.toNat / 2)).toNat / 16
        else (wave.read (q.pos.toNat / 2)).toNat % 16) := by
  subst h
  refine ⟨_, countDown_spec (wavePeriod_pos g), rfl, position_toNat _ _, fun h => if_pos h, fun h => ?_⟩
  rw [waveTimer_eq, if_neg h]
  exact waveSample_toNat _ _

/-- One step of the LFSR, as a number: bits 14 and, in the narrow mode, 6 are the exclusive or of the low two bits; the
others are shifted (R496). -/
def lfsrNext (narrow : Bool) (l : BitVec 15) : BitVec 15 :=
  let bit := (l.getLsbD 0 != l.getLsbD 1).toNat
  let m := l.toNat / 2 + bit * 0x4000
  BitVec.ofNat 15 (if narrow then m / 128 * 128 + bit * 64 + m % 64 else m)

/-- A right shift of 15 bits with a bit shifted in at the top, as a number. -/
theorem shiftIn_toNat (l : BitVec 15) (b : Bool) :
    ((l >>> 1) ||| (if b then 0x4000 else 0)).toNat = l.toNat / 2 + b.toNat * 0x4000 := by
  have hl := l.isLt
  have hor := Nat.two_pow_add_eq_or_of_lt (i := 14) (b := l.toNat / 2) (by omega) 1
  cases b
  · simp [Nat.shiftRight_eq_div_pow]
  · simpa [Nat.shiftRight_eq_div_pow, Nat.or_comm, Nat.add_comm] using hor.symm

/-- A number with its bit 6 replaced. -/
theorem replaceBit6_testBit (m : Nat) (b : Bool) (i : Nat) :
    (m / 128 * 128 + b.toNat * 64 + m % 64).testBit i = if i = 6 then b else m.testBit i := by
  have hb := b.toNat_le
  have hlow : 2 ^ 6 * b.toNat + m % 64 < 2 ^ 7 := by omega
  have hshape : m / 128 * 128 + b.toNat * 64 + m % 64 = 2 ^ 7 * (m / 128) + (2 ^ 6 * b.toNat + m % 64) := by omega
  rw [hshape, Nat.testBit_two_pow_mul_add _ hlow, Nat.testBit_two_pow_mul_add _ (by omega)]
  rcases Nat.lt_trichotomy i 6 with hi | rfl | hi
  · have hmod : (m % 64).testBit i = m.testBit i := (Nat.testBit_mod_two_pow m 6 i).trans (by simp [hi])
    rw [if_pos (by omega), if_pos hi, if_neg (by omega), hmod]
  · cases b <;> rfl
  · have hdiv : (m / 128).testBit (i - 7) = m.testBit i :=
      (Nat.testBit_div_two_pow m (n := 7) (i - 7)).trans (by rw [Nat.sub_add_cancel hi])
    rw [if_neg (by omega), if_neg (by omega), hdiv]

theorem lfsrStep_eq (narrow : Bool) (l : BitVec 15) : lfsrStep narrow l = lfsrNext narrow l := by
  unfold lfsrStep lfsrNext
  dsimp only
  rw [show (l.getLsbD 0 != l.getLsbD 1) = (l.getLsbD 0 ^^ l.getLsbD 1) from rfl]
  generalize (l.getLsbD 0 ^^ l.getLsbD 1) = b
  have hshift := shiftIn_toNat l b
  generalize (l >>> 1) ||| (if b then 0x4000 else 0) = m at hshift ⊢
  rw [← hshift]
  cases narrow
  case false => simp
  case true =>
    have hkept : ∀ i < 15, (~~~0x40 : BitVec 15).getLsbD i = decide (i ≠ 6) := by decide
    have hput : ∀ b : Bool, ∀ i < 15, (if b then 0x40 else 0 : BitVec 15).getLsbD i = (b && decide (i = 6)) := by
      decide
    refine BitVec.eq_of_getLsbD_eq fun i hi => ?_
    rw [if_pos rfl, if_pos rfl, BitVec.getLsbD_ofNat, replaceBit6_testBit, BitVec.getLsbD_or, BitVec.getLsbD_and,
      hkept i hi, hput b i hi, BitVec.getLsbD]
    by_cases hbit : i = 6 <;> simp [hbit, hi]
/-- What the timer of channel 4 does in a machine cycle while it is enabled (R496). -/
theorem noiseTimer_spec {g : ApuRegs} {narrow : Bool} {n q : Noise} (h : q = noiseTimer 4 (noisePeriod g) narrow n) :
    ∃ k, (q.timer + 4 = n.timer + k * noisePeriod g ∧ 0 < q.timer ∧ (k = 0 ∨ q.timer ≤ noisePeriod g)) ∧
      q = { n with timer := q.timer, lfsr := q.lfsr } ∧ q.lfsr = iterate (lfsrNext narrow) k n.lfsr := by
  subst h
  refine ⟨_, countDown_spec (noisePeriod_pos g), rfl, ?_⟩
  rw [noiseTimer_eq, funext (lfsrStep_eq narrow)]

/-! When a channel is enabled (R489). -/

theorem enabled_iff (on : Bool) (nrx2 : Byte) : (on && dacOn nrx2) = true ↔ on = true ∧ nrx2.toNat / 8 ≠ 0 := by
  rw [dacOn_eq, Bool.and_eq_true, decide_eq_true_iff]

theorem enabled1_iff (a : Apu) : enabled1 a = true ↔ a.ch1.on = true ∧ a.regs.nr12.toNat / 8 ≠ 0 := enabled_iff _ _
theorem enabled2_iff (a : Apu) : enabled2 a = true ↔ a.ch2.on = true ∧ a.regs.nr22.toNat / 8 ≠ 0 := enabled_iff _ _
theorem enabled3_iff (a : Apu) : enabled3 a = true ↔ a.ch3.on = true ∧ a.regs.nr30.getLsbD 7 = true := by
  rw [enabled3, Bool.and_eq_true]
theorem enabled4_iff (a : Apu) : enabled4 a = true ↔ a.ch4.on = true ∧ a.regs.nr42.toNat / 8 ≠ 0 := enabled_iff _ _

/-- Settles O40: the sequencer, then the timer of each enabled channel, then the sample clock. -/
theorem apuMachineCycle : Obligations.ApuMachineCycle := by
  unfold Obligations.ApuMachineCycle
  intro s a b c g
  have hacc : c.sampleAcc = a.sampleAcc := by
    show (if a.power then channelTimers 4 s.waveRam b else a).sampleAcc = a.sampleAcc
    split
    · exact (sequencerStep_keeps a).2
    · rfl
  refine ⟨?sample, rfl, fun hon => ?timers⟩
  case sample =>
    rw [← hacc]
    rfl
  case timers =>
    have hc : c = channelTimers 4 s.waveRam b := if_pos hon
    rw [hc]
    exact ⟨rfl,
      ⟨fun h => pulseTimer_spec (if_pos ((enabled1_iff b).2 h)), fun h => if_neg (mt (enabled1_iff b).1 h)⟩,
      ⟨fun h => pulseTimer_spec (if_pos ((enabled2_iff b).2 h)), fun h => if_neg (mt (enabled2_iff b).1 h)⟩,
      fun h => waveTimer_spec (if_pos ((enabled3_iff b).2 h)), fun h => if_neg (mt (enabled3_iff b).1 h),
      fun h => noiseTimer_spec (if_pos ((enabled4_iff b).2 h)), fun h => if_neg (mt (enabled4_iff b).1 h)⟩

/-! ## The samples -/

theorem filterConstant_bounds : 0 < filterConstant ∧ filterConstant < 1 := by
  have hgain : (0 : Rat) ≤ Config.filterGain := Nat.cast_nonneg _
  have hloss : (0 : Rat) ≤ Config.filterLoss := Nat.cast_nonneg _
  unfold filterConstant
  constructor
  · exact div_pos (by linarith) (by linarith)
  · rw [div_lt_one (by linarith)]
    linarith

/-- The table of R496, position 0 leftmost. -/
def dutyTable : List (List Nat) :=
  [[0, 0, 0, 0, 0, 0, 0, 1], [1, 0, 0, 0, 0, 0, 0, 1], [1, 0, 0, 0, 0, 1, 1, 1], [0, 1, 1, 1, 1, 1, 1, 0]]

theorem dutyWave_bit : ∀ (duty : BitVec 2) (pos : BitVec 3),
    ((dutyWave duty).getLsbD (7 - pos.toNat)).toNat = (dutyTable.getD duty.toNat []).getD pos.toNat 0 := by decide

theorem if_eq_toNat_mul (b : Bool) (n : Nat) : (if b then n else 0) = b.toNat * n := by cases b <;> simp

theorem pulseOutput_eq (p : Pulse) :
    pulseOutput p = p.vol.toNat * (dutyTable.getD p.duty.toNat []).getD p.dutyPos.toNat 0 := by
  rw [pulseOutput, if_eq_toNat_mul, dutyWave_bit, Nat.mul_comm]

theorem waveShift_eq {level : Nat} (h : level < 4) : waveShift level = [4, 0, 1, 2].getD level 0 := by
  interval_cases level <;> rfl

theorem noiseOutput_eq (n : Noise) :
    (if n.lfsr.getLsbD 0 then 0 else n.vol.toNat) = n.vol.toNat * (1 - n.lfsr.toNat % 2) := by
  rcases Nat.mod_two_eq_zero_or_one n.lfsr.toNat with h | h <;> simp [BitVec.getLsbD, Nat.testBit_zero, h]

/-- The four outputs, by the formulas of R496. -/
theorem channelOutputs_eq (a : Apu) :
    channelOutputs a =
      (if a.ch1.on = true ∧ a.regs.nr12.toNat / 8 ≠ 0 then
        a.ch1.vol.toNat * (dutyTable.getD a.ch1.duty.toNat []).getD a.ch1.dutyPos.toNat 0 else 0,
       if a.ch2.on = true ∧ a.regs.nr22.toNat / 8 ≠ 0 then
        a.ch2.vol.toNat * (dutyTable.getD a.ch2.duty.toNat []).getD a.ch2.dutyPos.toNat 0 else 0,
       if a.ch3.on = true ∧ a.regs.nr30.getLsbD 7 = true then
        a.ch3.sample.toNat / 2 ^ [4, 0, 1, 2].getD (a.regs.nr32.toNat / 32 % 4) 0 else 0,
       if a.ch4.on = true ∧ a.regs.nr42.toNat / 8 ≠ 0 then
        a.ch4.vol.toNat * (1 - a.ch4.lfsr.toNat % 2) else 0) := by
  simp only [channelOutputs, enabled1_iff, enabled2_iff, enabled3_iff, enabled4_iff, pulseOutput_eq, noiseOutput_eq,
    waveShift_eq (Nat.mod_lt _ (by decide : 0 < 4))]

theorem mixSide_eq (nr51 : Byte) (shift : Nat) (out : Nat × Nat × Nat × Nat) :
    mixSide nr51 shift out =
      (nr51.getLsbD (shift + 0)).toNat * out.1 + (nr51.getLsbD (shift + 1)).toNat * out.2.1 +
        (nr51.getLsbD (shift + 2)).toNat * out.2.2.1 + (nr51.getLsbD (shift + 3)).toNat * out.2.2.2 := by
  simp only [mixSide, if_eq_toNat_mul, Nat.add_zero]

theorem masterVolume_eq (v : Nat) : masterVolume v = ((v + 1 : Nat) : Rat) := (Nat.cast_succ v).symm

/-- A sample joins the frame being filled, which is published when it is full (R495). -/
theorem pushSample_eq (x : Sample) (a : Apu) :
    pushSample x a =
      { a with
        frame := if a.frame.length + 1 < audioFrameLen then a.frame ++ [x] else []
        published := if a.frame.length + 1 < audioFrameLen then a.published else a.published ++ [a.frame ++ [x]] } := by
  have hfull : audioFrameLen ≤ (a.frame ++ [x]).length ↔ ¬a.frame.length + 1 < audioFrameLen := by
    rw [List.length_append, List.length_singleton, Nat.not_lt]
  simp only [pushSample, hfull, ite_not]

/-- Settles O41: the outputs and the mix by their formulas, through the filter to the frame. -/
theorem emittedSample : Obligations.EmittedSample := by
  unfold Obligations.EmittedSample
  intro a t g pulse wave noise mix left right sample
  have hmix (bit : Nat) : mixSide a.regs.nr51 bit (channelOutputs a) = mix bit := by
    rw [mixSide_eq, channelOutputs_eq]
    rfl
  have ht : t = pushSample sample
      { a with capLeft := mix 4 - left * filterConstant, capRight := mix 0 - right * filterConstant } := by
    show emitSample a = _
    unfold emitSample
    simp only [hmix, masterVolume_eq]
    rfl
  refine ⟨filterConstant_bounds.1, filterConstant_bounds.2, Nat.succ_pos _, ?_⟩
  rw [ht, pushSample_eq]
  exact ⟨rfl, rfl, rfl, rfl, rfl⟩

end Sys2Proof.Proofs
end

section
/-! Proofs of the statements of 64_cartridge_mbc.md: the windows of the cartridge on the bus, the controllers MBC1 and
MBC3, the real-time clock, the invariant of the controller, and the cartridge load. -/

namespace Sys2Proof.Proofs

open Sys2Proof Machine Laws

/-! ## The cartridge on the bus -/

theorem regionOf_cartRom {boot : Bool} {a : Nat} (hboot : 0x100 ≤ a ∨ boot = false) (h : a < 0x8000) :
    regionOf boot a = .cart a := by
  have hoverlay : ¬(boot = true ∧ a < 0x100) := by
    rintro ⟨rfl, ha⟩
    simp at hboot
    omega
  rw [regionOf, if_neg hoverlay, if_pos h]

/-- A store below 0x8000 reaches the cartridge, under the boot overlay too (R78). -/
theorem regionWrite_cartRom (boot : Bool) {a : Nat} (h : a < 0x8000) (v : Byte) (s : State) :
    regionWrite (regionOf boot a) v s = storeCart a v s := by
  by_cases hoverlay : boot = true ∧ a < 0x100
  · rw [regionOf, if_pos hoverlay]
    rfl
  · rw [regionOf, if_neg hoverlay, if_pos h]
    rfl

theorem regionOf_external (boot : Bool) {a : Nat} (h : 0xA000 ≤ a ∧ a < 0xC000) : regionOf boot a = .cart a := by
  obtain ⟨hlow, hhigh⟩ := h
  unfold regionOf
  rw [if_neg (by omega), if_neg (by omega), if_neg (by omega), if_pos hhigh]

theorem busRead_cartRom {s : State} {addr : Word} (hboot : 0x100 ≤ addr.toNat ∨ s.bootEnabled = false)
    (h : addr.toNat < 0x8000) : busRead s addr = s.cart.rom.read (romOffset s.cart addr.toNat) := by
  unfold busRead
  rw [regionOf_cartRom hboot h]
  exact if_pos h

theorem busWrite_registerArea {s : State} {addr : Word} (h : addr.toNat < 0x8000) (v : Byte) :
    busWrite addr v s =
      { s with
        cart := (cartRegisterStore s.cart s.hostClock addr.toNat v).1
        hostClock := (cartRegisterStore s.cart s.hostClock addr.toNat v).2 } := by
  unfold busWrite
  rw [regionWrite_cartRom _ h, storeCart, cartWrite, if_pos h]

theorem busRead_external {s : State} {addr : Word} (h : 0xA000 ≤ addr.toNat ∧ addr.toNat < 0xC000) :
    busRead s addr = cartExternalRead s.cart addr.toNat := by
  unfold busRead
  rw [regionOf_external _ h]
  exact if_neg (by omega)

theorem busWrite_external {s : State} {addr : Word} (h : 0xA000 ≤ addr.toNat ∧ addr.toNat < 0xC000) (v : Byte) :
    busWrite addr v s =
      { s with
        cart := (cartExternalStore s.cart s.hostClock addr.toNat v).1
        hostClock := (cartExternalStore s.cart s.hostClock addr.toNat v).2 } := by
  unfold busWrite
  rw [regionOf_external _ h, regionWrite, storeCart, cartWrite, if_neg (by omega)]

/-- The window at 0xA000 where it reaches RAM. -/
theorem externalRam {s : State} {addr : Word} (h : 0xA000 ≤ addr.toNat ∧ addr.toNat < 0xC000) {k : Nat}
    (hk : ramWindow s.cart addr.toNat = some k) (v : Byte) :
    busRead s addr = s.cart.ram.read k ∧
      busWrite addr v s = { s with cart := { s.cart with ram := s.cart.ram.write k v } } := by
  rw [busRead_external h, busWrite_external h, cartExternalRead, cartExternalStore, hk]
  exact ⟨rfl, rfl⟩

/-- The window at 0xA000 where it reaches no RAM. -/
theorem externalNoRam {s : State} {addr : Word} (h : 0xA000 ≤ addr.toNat ∧ addr.toNat < 0xC000)
    (hk : ramWindow s.cart addr.toNat = none) (v : Byte) :
    busRead s addr = noRamRead s.cart ∧
      busWrite addr v s =
        { s with
          cart := (noRamStore s.cart s.hostClock v).1, hostClock := (noRamStore s.cart s.hostClock v).2 } := by
  rw [busRead_external h, busWrite_external h, cartExternalRead, cartExternalStore, hk]
  exact ⟨rfl, rfl⟩

/-- The window at 0xA000 where nothing is mapped. -/
theorem externalNothing {s : State} {addr : Word} (h : 0xA000 ≤ addr.toNat ∧ addr.toNat < 0xC000)
    (hk : ramWindow s.cart addr.toNat = none) {v : Byte}
    (hnone : noRamRead s.cart = 0xFF ∧ noRamStore s.cart s.hostClock v = (s.cart, s.hostClock)) :
    busRead s addr = 0xFF ∧ busWrite addr v s = s := by
  obtain ⟨hread, hwrite⟩ := externalNoRam h hk v
  rw [hread, hwrite, hnone.1, hnone.2]
  exact ⟨rfl, rfl⟩

/-- Only MBC3 maps anything but RAM. -/
theorem noRam_of_not_mbc3 {c : Cart} (h : ∀ m, c.ctrl ≠ .mbc3 m) (clock : HostClock) (v : Byte) :
    noRamRead c = 0xFF ∧ noRamStore c clock v = (c, clock) := by
  unfold noRamRead noRamStore
  cases hctrl : c.ctrl
  case mbc3 m => exact absurd hctrl (h m)
  all_goals exact ⟨rfl, rfl⟩

/-- The first bank lies at 0x0000, and the mapped one at 0x4000. -/
theorem romOffset_low (c : Cart) {a : Nat} (h : a < 0x4000) : romOffset c a = a := if_pos h

theorem romOffset_high (c : Cart) {a : Nat} (h : 0x4000 ≤ a) :
    romOffset c a = 0x4000 * mappedBank c + (a - 0x4000) := if_neg (Nat.not_lt.2 h)

/-- A value stored to a bank register, as a number, with 0 coerced to 1 (R532, R542). -/
theorem nonZeroBank_setWidth (w : Nat) (v : Byte) :
    nonZeroBank (v.setWidth w) = if v.toNat % 2 ^ w = 0 then 1 else BitVec.ofNat w v.toNat := by
  have hzero : v.setWidth w = 0 ↔ v.toNat % 2 ^ w = 0 := by simp [← BitVec.toNat_inj]
  simp only [nonZeroBank, hzero, BitVec.ofNat_toNat]

theorem nonZeroBank_ne_zero {w : Nat} (hw : 0 < w) (b : BitVec w) : nonZeroBank b ≠ 0 := by
  unfold nonZeroBank
  split
  case isTrue => simp [← BitVec.toNat_inj, hw.ne']
  case isFalse h => exact h

/-! ## MBC1 -/

section Mbc1Stores

variable {s : State} {addr : Word} {m : Mbc1} (h : s.cart.ctrl = .mbc1 m)
include h

theorem busWrite_mbc1 (ha : addr.toNat < 0x8000) (v : Byte) :
    busWrite addr v s = { s with cart := { s.cart with ctrl := .mbc1 (mbc1Write addr.toNat v m) } } := by
  rw [busWrite_registerArea ha, cartRegisterStore, h]

theorem mappedBank_mbc1 :
    mappedBank s.cart =
      effectiveBank s.cart.cap.romBankCount
        (if m.mode then m.bankLo.toNat else m.bankHi.toNat * 32 + m.bankLo.toNat) := by
  rw [mappedBank, h]
  rfl

theorem ramWindow_mbc1 (a : Nat) :
    ramWindow s.cart a =
      if m.ramEnable = false ∨ s.cart.cap.ramSize = 0 then none
      else some (((if m.mode then m.bankHi.toNat else 0) * 0x2000 + (a - 0xA000)) % s.cart.cap.ramSize) := by
  simp only [ramWindow, mappedRamBank, h]
  cases hen : m.ramEnable <;> simp

end Mbc1Stores

theorem mbc1Write_bankLo {a : Nat} (hlow : 0x2000 ≤ a) (hhigh : a < 0x4000) (v : Byte) (m : Mbc1) :
    mbc1Write a v m = { m with bankLo := if v.toNat % 32 = 0 then 1 else BitVec.ofNat 5 v.toNat } := by
  rw [mbc1Write, if_neg (by omega), if_pos hhigh, nonZeroBank_setWidth]
  rfl

/-- Settles O43: the store is that of the bank register, whose value is not 0. -/
theorem mbc1BankSelect : Obligations.Mbc1BankSelect := by
  unfold Obligations.Mbc1BankSelect
  intro v s addr m h hlow hhigh
  refine ⟨nonZeroBank (v.setWidth 5), nonZeroBank_ne_zero (by decide) _, ?_, ?_⟩
  · rw [nonZeroBank_setWidth, apply_ite BitVec.toNat, BitVec.toNat_ofNat]
    rfl
  · rw [busWrite_mbc1 h (by omega), mbc1Write_bankLo hlow (by omega), nonZeroBank_setWidth]
    rfl

/-- Settles O44: the register stores by their ranges, the ROM windows by the mapped bank, the RAM window by
`ramWindow_mbc1`. -/
theorem mbc1Banking : Obligations.Mbc1Banking := by
  unfold Obligations.Mbc1Banking
  intro v s addr m h
  dsimp only
  refine ⟨fun ha => ?enable, fun hlow hhigh => ?bankLo, fun hlow hhigh => ?bankHi, fun hlow hhigh => ?mode,
    fun hboot ha => ?firstBank, fun hlow hhigh => ?mappedBank, fun hlow hhigh => ?ram⟩
  case enable =>
    rw [busWrite_mbc1 h (by omega), mbc1Write, if_pos ha]
    rfl
  case bankLo => rw [busWrite_mbc1 h (by omega), mbc1Write_bankLo hlow hhigh]
  case bankHi =>
    rw [busWrite_mbc1 h (by omega), mbc1Write, if_neg (by omega), if_neg (by omega), if_pos hhigh]
    rfl
  case mode =>
    rw [busWrite_mbc1 h hhigh, mbc1Write, if_neg (by omega), if_neg (by omega), if_neg (by omega)]
  case firstBank => rw [busRead_cartRom hboot (by omega), romOffset_low _ ha]
  case mappedBank =>
    rw [busRead_cartRom (.inl (by omega)) hhigh, romOffset_high _ hlow, mappedBank_mbc1 h]
    rfl
  case ram =>
    have hwindow := ramWindow_mbc1 h addr.toNat
    by_cases hnone : m.ramEnable = false ∨ s.cart.cap.ramSize = 0
    · rw [if_pos hnone] at hwindow ⊢
      rw [if_pos hnone]
      exact externalNothing ⟨hlow, hhigh⟩ hwindow (noRam_of_not_mbc3 (by simp [h]) _ v)
    · rw [if_neg hnone] at hwindow ⊢
      rw [if_neg hnone]
      exact externalRam ⟨hlow, hhigh⟩ hwindow v

/-! ## MBC3: its registers, its banks and the window at 0xA000 -/

section Mbc3Stores

variable {s : State} {addr : Word} {m : Mbc3} (h : s.cart.ctrl = .mbc3 m)
include h

theorem busWrite_mbc3 (ha : addr.toNat < 0x6000) (v : Byte) :
    busWrite addr v s = { s with cart := { s.cart with ctrl := .mbc3 (mbc3Write addr.toNat v m) } } := by
  rw [busWrite_registerArea (by omega), cartRegisterStore, h]
  dsimp only
  rw [mbc3RegisterStore, if_pos ha]

theorem mappedBank_mbc3 : mappedBank s.cart = effectiveBank s.cart.cap.romBankCount m.romBank.toNat := by
  rw [mappedBank, h]

theorem ramWindow_mbc3 (a : Nat) :
    ramWindow s.cart a =
      if m.ramEnable = true ∧ m.ramRtcSelect.toNat < 4 ∧ s.cart.cap.ramSize ≠ 0 then
        some ((m.ramRtcSelect.toNat * 0x2000 + (a - 0xA000)) % s.cart.cap.ramSize)
      else none := by
  simp only [ramWindow, mappedRamBank, h]
  by_cases hmapped : m.ramEnable = true ∧ m.ramRtcSelect.toNat < 4
  · simp [hmapped]
  · rw [if_neg (by simpa using hmapped), if_neg fun hall => hmapped ⟨hall.1, hall.2.1⟩]

end Mbc3Stores

/-- The window where no RTC register is mapped. -/
theorem noRam_mbc3_none {c : Cart} {m : Mbc3} (h : c.ctrl = .mbc3 m) (hrtc : rtcWindow c.cap m = none)
    (clock : HostClock) (v : Byte) : noRamRead c = 0xFF ∧ noRamStore c clock v = (c, clock) := by
  simp [noRamRead, noRamStore, h, hrtc]

/-- The window where an RTC register is mapped. -/
theorem noRam_mbc3_some {c : Cart} {m : Mbc3} (h : c.ctrl = .mbc3 m) {k : Nat} (hrtc : rtcWindow c.cap m = some k)
    (clock : HostClock) (v : Byte) :
    noRamRead c = m.rtcLatched.get k ∧
      noRamStore c clock v =
        ({ c with ctrl := .mbc3 (rtcWrite (sampleClockTime clock).now k v m) }, sampleClockTime clock) := by
  simp [noRamRead, noRamStore, h, hrtc]

theorem rtcWindow_of_mapped {cap : Capability} {m : Mbc3} (hen : m.ramEnable = true)
    (hselect : 8 ≤ m.ramRtcSelect.toNat) (htimer : cap.hasTimer = true) : rtcWindow cap m = some (m.ramRtcSelect.toNat - 8) := by
  simp [rtcWindow, hen, hselect, htimer]

theorem rtcWindow_of_not_mapped {cap : Capability} {m : Mbc3}
    (h : ¬(m.ramEnable = true ∧ 8 ≤ m.ramRtcSelect.toNat ∧ cap.hasTimer = true)) : rtcWindow cap m = none := by
  refine if_neg fun hmapped => h ?_
  simpa [and_assoc] using hmapped

theorem isEnableByte_or (v : Byte) (b : Bool) :
    (isEnableByte v || b) = if v.toNat % 16 = 10 then true else b := by
  rw [isEnableByte, lowNibble]
  split <;> simp [*]

theorem isRamRtcSelector_iff (v : Byte) :
    isRamRtcSelector v = true ↔ v.toNat ≤ 3 ∨ (8 ≤ v.toNat ∧ v.toNat ≤ 12) := by
  simp [isRamRtcSelector, Nat.lt_succ_iff]

theorem mbc3Write_select {a : Nat} (hlow : 0x4000 ≤ a) (v : Byte) (m : Mbc3) :
    mbc3Write a v m = if isRamRtcSelector v then { m with ramRtcSelect := v.setWidth 4 } else m := by
  rw [mbc3Write, if_neg (by omega), if_neg (by omega)]

/-- The five RTC registers in order, from 0x08 on. -/
theorem rtcRegs_get (l : RtcRegs) {k : Nat} (h : k < 5) :
    some (l.get k) = [l.seconds, l.minutes, l.hours, l.dayLow, l.dayHigh][k]? := by
  interval_cases k <;> rfl

/-- Settles O45: the register stores by their ranges, the ROM windows by the mapped bank, and the window at 0xA000 by
what it maps: RAM, an RTC register or nothing. -/
theorem mbc3Banking : Obligations.Mbc3Banking := by
  unfold Obligations.Mbc3Banking
  intro v s addr m h
  dsimp only
  refine ⟨fun ha => ?enable, fun hlow hhigh => ?romBank, fun hlow hhigh hlegal => ?select,
    fun hlow hhigh hillegal => ?illegal, fun hboot ha => ?firstBank, fun hlow hhigh => ?mappedBank,
    fun hlow hhigh => ?window⟩
  case enable =>
    rw [busWrite_mbc3 h (by omega), mbc3Write, if_pos ha, isEnableByte_or]
  case romBank =>
    rw [busWrite_mbc3 h (by omega), mbc3Write, if_neg (by omega), if_pos hhigh, nonZeroBank_setWidth]
    rfl
  case select =>
    rw [busWrite_mbc3 h hhigh, mbc3Write_select hlow, if_pos ((isRamRtcSelector_iff v).2 hlegal), BitVec.ofNat_toNat]
  case illegal =>
    rw [busWrite_mbc3 h hhigh, mbc3Write_select hlow, if_neg (mt (isRamRtcSelector_iff v).1 hillegal)]
  case firstBank => rw [busRead_cartRom hboot (by omega), romOffset_low _ ha]
  case mappedBank =>
    rw [busRead_cartRom (.inl (by omega)) hhigh, romOffset_high _ hlow, mappedBank_mbc3 h]
    rfl
  case window =>
    have hexternal : 0xA000 ≤ addr.toNat ∧ addr.toNat < 0xC000 := ⟨hlow, hhigh⟩
    have hwindow := ramWindow_mbc3 h addr.toNat
    have nothing
        (hram : ¬(m.ramEnable = true ∧ m.ramRtcSelect.toNat < 4 ∧ s.cart.cap.ramSize ≠ 0))
        (hrtc : ¬(m.ramEnable = true ∧ 8 ≤ m.ramRtcSelect.toNat ∧ s.cart.cap.hasTimer = true)) :
        busRead s addr = 0xFF ∧ busWrite addr v s = s :=
      externalNothing hexternal (hwindow.trans (if_neg hram)) (noRam_mbc3_none h (rtcWindow_of_not_mapped hrtc) _ v)
    refine ⟨fun hen => nothing (by simp [hen]) (by simp [hen]), fun hen hselect hsize => nothing (by simp [hsize]) ?_,
      fun hen hselect hsize => externalRam hexternal (hwindow.trans (if_pos ⟨hen, by omega, hsize⟩)) v,
      fun hen hselect hle htimer => nothing ?_ (by simp [htimer]), fun hen hselect hle htimer => ?_⟩
    · omega
    · omega
    · obtain ⟨hread, -⟩ := externalNoRam hexternal (hwindow.trans (if_neg (by omega))) v
      rw [hread, (noRam_mbc3_some h (rtcWindow_of_mapped hen hselect htimer) s.hostClock v).1]
      exact rtcRegs_get _ (by omega)

/-! ## MBC3: the real-time clock -/

/-- The registers of `RtcLive()` as numbers (R545). -/
theorem rtcRegsOf_toNat (e : Nat) (stopped carry : Bool) :
    (rtcRegsOf e stopped carry).seconds.toNat = e % 60 ∧ (rtcRegsOf e stopped carry).minutes.toNat = e / 60 % 60 ∧
      (rtcRegsOf e stopped carry).hours.toNat = e / 3600 % 24 ∧
      (rtcRegsOf e stopped carry).dayLow.toNat = e / 86400 % 256 ∧
      (rtcRegsOf e stopped carry).dayHigh.toNat =
        e / 86400 / 256 % 2 + 64 * stopped.toNat + 128 * carry.toNat := by
  have hbits : ∀ day stopped carry : Bool,
      (bitAt 0 day ||| bitAt 6 stopped ||| bitAt 7 carry).toNat =
        day.toNat + 64 * stopped.toNat + 128 * carry.toNat := by decide
  simp only [rtcRegsOf, BitVec.toNat_ofNat]
  refine ⟨by omega, by omega, by omega, trivial, ?_⟩
  rw [hbits, Nat.toNat_testBit]

/-- A snapshot with one register replaced, register by register. -/
theorem rtcRegs_put (l : RtcRegs) {k : Nat} (hk : k < 5) (v : Byte) :
    l.put k v =
      { seconds := if k = 0 then v else l.seconds, minutes := if k = 1 then v else l.minutes
        hours := if k = 2 then v else l.hours, dayLow := if k = 3 then v else l.dayLow
        dayHigh := if k = 4 then v else l.dayHigh } := by
  interval_cases k <;> rfl

/-- The elapsed time that a store of `v` to RTC register `select` leaves (R545). -/
theorem rtcSecondsOf_put (e : Nat) (stopped carry : Bool) {select : Nat} (hlow : 8 ≤ select) (hhigh : select ≤ 12)
    (v : Byte) :
    rtcSecondsOf ((rtcRegsOf e stopped carry).put (select - 8) v) =
      (if select = 8 then v.toNat else e % 60) % 60 + (if select = 9 then v.toNat else e / 60 % 60) % 60 * 60 +
        (if select = 10 then v.toNat else e / 3600 % 24) % 24 * 3600 +
        ((if select = 11 then v.toNat else e / 86400 % 256) +
          (if select = 12 then v.toNat else e / 86400 / 256) % 2 * 256) * 86400 := by
  obtain ⟨hseconds, hminutes, hhours, hdayLow, hdayHigh⟩ := rtcRegsOf_toNat e stopped carry
  have hday : (if select = 12 then v.toNat else (rtcRegsOf e stopped carry).dayHigh.toNat) % 2 =
      (if select = 12 then v.toNat else e / 86400 / 256) % 2 := by
    rw [hdayHigh]
    split <;> omega
  have hoffset (k : Nat) : select - 8 = k ↔ select = 8 + k := by omega
  rw [rtcRegs_put _ (by omega)]
  simp only [rtcSecondsOf, apply_ite BitVec.toNat, hoffset, Nat.reduceAdd, hseconds, hminutes, hhours, hdayLow, hday]

/-- The time that a store to an RTC register leaves, before what register 0x0C adds (R545). -/
def rtcShifted (now : Int) (k : Nat) (v : Byte) (m : Mbc3) : Int :=
  rtcReference now m -
    rtcSecondsOf ((rtcRegsOf (rtcElapsed now m) m.rtcStopped (rtcLiveCarry (rtcElapsed now m) m.rtcCarry)).put k v)

theorem rtcShifted_eq (now : Int) {select : Nat} (hlow : 8 ≤ select) (hhigh : select ≤ 12) (v : Byte) (m : Mbc3) :
    rtcShifted now (select - 8) v m =
      rtcReference now m -
        (((if select = 8 then v.toNat else rtcElapsed now m % 60) % 60 +
          (if select = 9 then v.toNat else rtcElapsed now m / 60 % 60) % 60 * 60 +
          (if select = 10 then v.toNat else rtcElapsed now m / 3600 % 24) % 24 * 3600 +
          ((if select = 11 then v.toNat else rtcElapsed now m / 86400 % 256) +
            (if select = 12 then v.toNat else rtcElapsed now m / 86400 / 256) % 2 * 256) * 86400 : Nat) : Int) := by
  rw [rtcShifted, rtcSecondsOf_put _ _ _ hlow hhigh]

theorem rtcWrite_component {k : Nat} (hk : k ≠ 4) (now : Int) (v : Byte) (m : Mbc3) :
    rtcWrite now k v m =
      { m with
        rtcStartTime := rtcShifted now k v m, rtcCarry := rtcLiveCarry (rtcElapsed now m) m.rtcCarry } := if_neg hk

theorem rtcWrite_dayHigh (now : Int) (v : Byte) (m : Mbc3) :
    rtcWrite now 4 v m =
      rtcSetStopped now (v.getLsbD 6)
        { m with rtcStartTime := rtcShifted now 4 v m, rtcCarry := v.getLsbD 7 } := rfl

/-! A store to register 0x0C keeps the stopped bit, sets it, or clears it (R545). -/

theorem rtcWrite_same {v : Byte} {m : Mbc3} (h : v.getLsbD 6 = m.rtcStopped) (now : Int) :
    rtcWrite now 4 v m = { m with rtcStartTime := rtcShifted now 4 v m, rtcCarry := v.getLsbD 7 } := by
  rw [rtcWrite_dayHigh, h]
  unfold rtcSetStopped
  cases hstopped : m.rtcStopped <;> rfl

theorem rtcWrite_stops {v : Byte} {m : Mbc3} (hstop : v.getLsbD 6 = true) (h : m.rtcStopped = false) (now : Int) :
    rtcWrite now 4 v m =
      { m with
        rtcStartTime := rtcShifted now 4 v m, rtcCarry := v.getLsbD 7, rtcStopTime := now, rtcStopped := true } := by
  rw [rtcWrite_dayHigh, hstop]
  simp only [rtcSetStopped, h]

theorem rtcWrite_restarts {v : Byte} {m : Mbc3} (hrestart : v.getLsbD 6 = false) (h : m.rtcStopped = true)
    (now : Int) :
    rtcWrite now 4 v m =
      { m with
        rtcStartTime := rtcShifted now 4 v m + (now - m.rtcStopTime), rtcCarry := v.getLsbD 7
        rtcStopped := false } := by
  rw [rtcWrite_dayHigh, hrestart]
  simp only [rtcSetStopped, h]

theorem latchesRtc_iff (c : Cart) (m : Mbc3) (v : Byte) :
    latchesRtc c m v = true ↔ c.cap.hasTimer = true ∧ m.latchLast = some 0 ∧ v = 1 := by
  simp [latchesRtc, and_assoc]

theorem busWrite_latchRange {s : State} {addr : Word} {m : Mbc3} (h : s.cart.ctrl = .mbc3 m)
    (hlow : 0x6000 ≤ addr.toNat) (hhigh : addr.toNat < 0x8000) (v : Byte) :
    busWrite addr v s =
      if latchesRtc s.cart m v then
        { s with
          hostClock := sampleClockTime s.hostClock
          cart := { s.cart with
            ctrl := .mbc3 { rtcLatch (sampleClockTime s.hostClock).now m with latchLast := some v } } }
      else { s with cart := { s.cart with ctrl := .mbc3 { m with latchLast := some v } } } := by
  rw [busWrite_registerArea hhigh, cartRegisterStore, h]
  dsimp only
  rw [mbc3RegisterStore, if_neg (by omega)]
  split <;> rfl

theorem busWrite_rtcRegister {s : State} {addr : Word} {m : Mbc3} (h : s.cart.ctrl = .mbc3 m)
    (ha : 0xA000 ≤ addr.toNat ∧ addr.toNat < 0xC000) (hen : m.ramEnable = true) (htimer : s.cart.cap.hasTimer = true)
    (hselect : 8 ≤ m.ramRtcSelect.toNat) (v : Byte) :
    busWrite addr v s =
      { s with
        hostClock := sampleClockTime s.hostClock
        cart := { s.cart with
          ctrl := .mbc3 (rtcWrite (sampleClockTime s.hostClock).now (m.ramRtcSelect.toNat - 8) v m) } } := by
  have hnone : ramWindow s.cart addr.toNat = none := by
    rw [ramWindow_mbc3 h, if_neg (by omega)]
  rw [(externalNoRam ha hnone v).2, (noRam_mbc3_some h (rtcWindow_of_mapped hen hselect htimer) s.hostClock v).2]

/-- Settles O46: the sample of the wall clock is the witness; the latch copies `rtcRegsOf_toNat`, and a store to a
register shifts the start time by `rtcSecondsOf_put`. -/
theorem mbc3Clock : Obligations.Mbc3Clock := by
  unfold Obligations.Mbc3Clock
  intro v s addr m h
  refine ⟨sampleClockTime s.hostClock, Nat.le_add_right _ _, rfl, fun hlow hhigh hnot => ?remembered,
    fun hlow hhigh hlatches => ?latch, fun hlow hhigh hen htimer hselect hle => ?rtc⟩
  case remembered => rw [busWrite_latchRange h hlow hhigh, if_neg (mt (latchesRtc_iff _ _ _).1 hnot)]
  case latch =>
    refine ⟨_, ?_, rtcRegsOf_toNat _ _ _⟩
    rw [busWrite_latchRange h hlow hhigh, if_pos ((latchesRtc_iff _ _ _).2 hlatches)]
    rfl
  case rtc =>
    have hstore := busWrite_rtcRegister h ⟨hlow, hhigh⟩ hen htimer hselect v
    intro e put e' start
    have hstart : rtcShifted (sampleClockTime s.hostClock).now (m.ramRtcSelect.toNat - 8) v m = start :=
      rtcShifted_eq _ hselect hle v m
    refine ⟨fun hother => ?component, fun hdayHigh hsame => ?same, fun hdayHigh hstop hruns => ?stops,
      fun hdayHigh hrestart hstopped => ?restarts⟩
    case component =>
      rw [hstore, rtcWrite_component (by omega), hstart]
      rfl
    all_goals rw [hdayHigh] at hstore hstart
    case same => rw [hstore, rtcWrite_same hsame, hstart]
    case stops => rw [hstore, rtcWrite_stops hstop hruns, hstart]
    case restarts => rw [hstore, rtcWrite_restarts hrestart hstopped, hstart]

/-! ## The controller's registers stay legal -/

/-- The registers of MBC3 are legal (R540, R542, R543). -/
def LegalMbc3 (m : Mbc3) : Prop :=
  m.romBank ≠ 0 ∧ (m.ramRtcSelect.toNat ≤ 3 ∨ (8 ≤ m.ramRtcSelect.toNat ∧ m.ramRtcSelect.toNat ≤ 12))

/-- The registers of a controller are legal (R530, R532, R540, R542, R543). -/
def LegalController : Controller → Prop
  | .romOnly => True
  | .mbc1 m => m.bankLo ≠ 0
  | .mbc3 m => LegalMbc3 m

theorem controllerInv_iff (s : State) : ControllerInv s ↔ LegalController s.cart.ctrl := by
  unfold ControllerInv
  cases s.cart.ctrl <;> exact Iff.rfl

theorem mbc1Write_legal (a : Nat) (v : Byte) {m : Mbc1} (h : m.bankLo ≠ 0) : (mbc1Write a v m).bankLo ≠ 0 := by
  unfold mbc1Write
  split
  · exact h
  split
  · exact nonZeroBank_ne_zero (by decide) _
  split
  · exact h
  · exact h

/-- A legal selector is stored as it is (R543). -/
theorem selector_toNat {v : Byte} (h : isRamRtcSelector v = true) :
    (v.setWidth 4).toNat ≤ 3 ∨ (8 ≤ (v.setWidth 4).toNat ∧ (v.setWidth 4).toNat ≤ 12) := by
  have hlegal := (isRamRtcSelector_iff v).1 h
  rw [BitVec.toNat_setWidth]
  omega

theorem mbc3Write_legal (a : Nat) (v : Byte) {m : Mbc3} (h : LegalMbc3 m) : LegalMbc3 (mbc3Write a v m) := by
  unfold mbc3Write
  split
  · exact h
  split
  · exact ⟨nonZeroBank_ne_zero (by decide) _, h.2⟩
  split
  case isTrue hselector => exact ⟨h.1, selector_toNat hselector⟩
  case isFalse => exact h

/-- A store to the clock moves neither the ROM bank nor the selector. -/
theorem rtcWrite_legal (now : Int) (k : Nat) (v : Byte) {m : Mbc3} (h : LegalMbc3 m) :
    LegalMbc3 (rtcWrite now k v m) := by
  obtain ⟨-, hbank, hselect, -⟩ := rtcWrite_keeps now k v m
  unfold LegalMbc3
  rw [hbank, hselect]
  exact h

theorem mbc3RegisterStore_legal {c : Cart} (clock : HostClock) {m : Mbc3} (a : Nat) (v : Byte) (h : LegalMbc3 m) :
    LegalController (mbc3RegisterStore c clock m a v).1.ctrl := by
  unfold mbc3RegisterStore
  split
  · exact mbc3Write_legal a v h
  split
  · exact h
  · exact h

theorem cartRegisterStore_legal {c : Cart} (clock : HostClock) (a : Nat) (v : Byte) (h : LegalController c.ctrl) :
    LegalController (cartRegisterStore c clock a v).1.ctrl := by
  cases hctrl : c.ctrl
  case romOnly =>
    rw [cartRegisterStore, hctrl]
    exact h
  case mbc1 m =>
    rw [hctrl] at h
    rw [cartRegisterStore, hctrl]
    exact mbc1Write_legal a v h
  case mbc3 m =>
    rw [hctrl] at h
    rw [cartRegisterStore, hctrl]
    exact mbc3RegisterStore_legal clock a v h

theorem noRamStore_legal {c : Cart} (clock : HostClock) (v : Byte) (h : LegalController c.ctrl) :
    LegalController (noRamStore c clock v).1.ctrl := by
  cases hctrl : c.ctrl
  case mbc3 m =>
    cases hrtc : rtcWindow c.cap m
    case none =>
      rw [(noRam_mbc3_none hctrl hrtc clock v).2]
      exact h
    case some k =>
      rw [(noRam_mbc3_some hctrl hrtc clock v).2]
      rw [hctrl] at h
      exact rtcWrite_legal _ k v h
  all_goals
    rw [noRamStore, hctrl]
    exact h

theorem storeCart_controllerInv (a : Nat) (v : Byte) {s : State} (h : ControllerInv s) :
    ControllerInv (storeCart a v s) := by
  rw [controllerInv_iff] at h ⊢
  unfold storeCart cartWrite cartExternalStore
  split
  · exact cartRegisterStore_legal s.hostClock a v h
  split
  · exact h
  · exact noRamStore_legal s.hostClock v h

theorem busWrite_controllerInv (a : Word) (v : Byte) {s : State} (h : ControllerInv s) :
    ControllerInv (busWrite a v s) := by
  unfold busWrite
  generalize regionOf s.bootEnabled a.toNat = r
  cases r
  case boot a => exact storeCart_controllerInv a v h
  case cart a => exact storeCart_controllerInv a v h
  case vram k => simp only [regionWrite]; split <;> exact h
  case oam k => simp only [regionWrite]; split <;> exact h
  case io r => cases r <;> exact h
  all_goals exact h

/-- The clock advance does not reach the cartridge. -/
theorem controllerInv_of_onlyDevices {s t : State} (h : OnlyDevices s t) (hs : ControllerInv s) : ControllerInv t := by
  rw [h]
  exact hs

/-- Settles O56: of the parts of a step only a store to the cartridge touches its controller. -/
theorem stepKeepsControllerInv : Obligations.StepKeepsControllerInv := by
  unfold Obligations.StepKeepsControllerInv
  intro s t h hst
  refine step_invariant_of_frame (P := ControllerInv) ?frame ?store ?dma ?cycle h hst
  case frame => exact fun _ _ _ _ _ _ _ _ _ h => h
  case store => exact fun a v _ h => busWrite_controllerInv a v h
  case dma => exact fun _ _ _ h => h
  case cycle => exact fun u h => controllerInv_of_onlyDevices (machineCycle_frame u) h

/-! ## The cartridge load -/

/-- The number of banks of a ROM-size code, 0 for a code outside the table (R523). -/
def romBankTable (rom : Nat) : Nat :=
  if rom < 8 then 2 ^ (rom + 1)
  else if rom = 0x52 then 72 else if rom = 0x53 then 80 else if rom = 0x54 then 96 else 0

theorem romBanksOf_eq (c : Byte) :
    romBanksOf c = if romBankTable c.toNat = 0 then none else some (romBankTable c.toNat) := by
  revert c
  decide

theorem ramSizeOf_eq (c : Byte) :
    ramSizeOf c =
      if c.toNat < 6 then some ([0, 2048, 8192, 32768, 131072, 65536].getD c.toNat 0) else none := by
  revert c
  decide

/-- The types of R523 whose families have a controller here (R526). -/
def supportedTypes : List Nat := [0x00, 0x01, 0x02, 0x03, 0x08, 0x09, 0x0F, 0x10, 0x11, 0x12, 0x13]

/-- The family of a supported type. -/
def familyOf (type : Nat) : CartFamily :=
  if type ∈ [0x00, 0x08, 0x09] then .romOnly else if type ∈ [0x01, 0x02, 0x03] then .mbc1 else .mbc3

theorem cartTypeOf_supported : ∀ t : Byte, t.toNat ∈ supportedTypes →
    cartTypeOf t =
        some
          { family := familyOf t.toNat
            ram := decide (t.toNat ∈ [0x02, 0x03, 0x08, 0x09, 0x10, 0x12, 0x13])
            battery := decide (t.toNat ∈ [0x03, 0x09, 0x0F, 0x10, 0x13])
            timer := decide (t.toNat = 0x0F ∨ t.toNat = 0x10), rumble := false } ∧
      isSupported (familyOf t.toNat) = true := by decide

theorem cartTypeOf_unsupported : ∀ t : Byte, t.toNat ∉ supportedTypes →
    (cartTypeOf t).all (fun row => !isSupported row.family) = true := by decide

/-- A size code outside the tables is refused before the type and the length are looked at (R524, log 20). -/
theorem loadCartridge_malformed {image : List Byte} (save : Option (List Byte)) (rtcSave : Option Int) (h : HostClock)
    (hl : 0x150 ≤ image.length)
    (hcodes : romBanksOf (image.getD 0x148 0) = none ∨ ramSizeOf (image.getD 0x149 0) = none) :
    ∃ code, loadCartridge image save rtcSave h = .error (.malformedHeader (some code)) := by
  unfold loadCartridge
  rw [if_neg (by omega)]
  dsimp only
  cases hrom : romBanksOf (image.getD 0x148 0)
  case none => exact ⟨_, rfl⟩
  case some banks =>
    rcases hcodes with hnone | hnone
    · rw [hrom] at hnone
      cases hnone
    · rw [hnone]
      exact ⟨_, rfl⟩

/-! The controller of a loaded cartridge, by its family (R530, R540). -/

theorem buildCart_romOnly {cap : Capability} (image : List Byte) (save : Option (List Byte)) (rtcSave : Option Int)
    (h : HostClock) (hf : cap.family = .romOnly) :
    (buildCart cap image save rtcSave h).cart.ctrl = .romOnly ∧ (buildCart cap image save rtcSave h).clock = h := by
  simp [buildCart, newController, hf]

theorem buildCart_mbc1 {cap : Capability} (image : List Byte) (save : Option (List Byte)) (rtcSave : Option Int)
    (h : HostClock) (hf : cap.family = .mbc1) :
    (buildCart cap image save rtcSave h).cart.ctrl =
        .mbc1 { ramEnable := false, bankLo := 1, bankHi := 0, mode := false } ∧
      (buildCart cap image save rtcSave h).clock = h := by
  simp [buildCart, newController, hf]

theorem buildCart_mbc3 {cap : Capability} (image : List Byte) (save : Option (List Byte)) (rtcSave : Option Int)
    (h : HostClock) (hf : cap.family = .mbc3) :
    ∃ m, (buildCart cap image save rtcSave h).cart.ctrl = .mbc3 m ∧ m.ramEnable = false ∧ m.romBank = 1 ∧
      m.ramRtcSelect = 0 ∧ m.latchLast = none ∧ m.rtcStopped = false ∧ m.rtcCarry = false ∧
      (∀ start, rtcSave = some start →
        m.rtcStartTime = start ∧ (buildCart cap image save rtcSave h).clock = h) ∧
      (rtcSave = none → m.rtcStartTime = (buildCart cap image save rtcSave h).clock.now ∧
        h.now ≤ (buildCart cap image save rtcSave h).clock.now) := by
  refine ⟨newMbc3 (rtcStartAtLoad rtcSave h).1, by simp [buildCart, newController, hf], rfl, rfl, rfl, rfl, rfl, rfl,
    ?_⟩
  have hclock : (buildCart cap image save rtcSave h).clock = (rtcStartAtLoad rtcSave h).2 := by
    simp [buildCart, newController, hf]
  rw [hclock]
  refine ⟨fun start hstart => ?_, fun hnone => ?_⟩
  · subst hstart
    exact ⟨rfl, rfl⟩
  · subst hnone
    exact ⟨rfl, Nat.le_add_right _ _⟩

/-! ### The ROM-only cartridge -/

section RomOnly

variable {s : State} {addr : Word} (h : s.cart.ctrl = .romOnly)
include h

theorem romOffset_romOnly (a : Nat) : romOffset s.cart a = a := by
  have hbank : mappedBank s.cart = 1 := by rw [mappedBank, h]
  unfold romOffset
  split
  · rfl
  · rw [hbank]
    omega

theorem busWrite_romOnly (ha : addr.toNat < 0x8000) (v : Byte) : busWrite addr v s = s := by
  rw [busWrite_registerArea ha, cartRegisterStore, h]

theorem ramWindow_romOnly (a : Nat) :
    ramWindow s.cart a =
      if s.cart.cap.ramSize = 0 then none else some ((a - 0xA000) % s.cart.cap.ramSize) := by
  simp [ramWindow, mappedRamBank, h]

end RomOnly

/-- Settles O42: the tables of the header decide what a load answers, `buildCart` is the cartridge, and a ROM-only one
has fixed windows. -/
theorem cartridgeLoad : Obligations.CartridgeLoad := by
  unfold Obligations.CartridgeLoad
  refine ⟨fun image save rtcSave h => ⟨fun hl => ?short, fun hl hcodes => ?malformed, fun hl hbanks hram => ?header⟩,
    fun v s addr h => ⟨fun hboot ha => ?read, fun ha => busWrite_romOnly h ha v, fun hlow hhigh => ?window⟩⟩
  case short => exact if_pos hl
  case malformed =>
    refine loadCartridge_malformed save rtcSave h hl (hcodes.imp (fun hrom => ?_) fun hram => ?_)
    · exact (romBanksOf_eq _).trans (if_pos hrom)
    · exact (ramSizeOf_eq _).trans (if_neg (Nat.not_lt.2 hram))
  case header =>
    have hload := loadCartridge_eq save rtcSave h hl ((romBanksOf_eq _).trans (if_neg hbanks))
      ((ramSizeOf_eq _).trans (if_pos hram))
    refine ⟨fun hunsupported => ?unsupported, fun hsupported hshort => ?truncated, fun hsupported hlong => ?loaded⟩
    case unsupported =>
      have hrow := cartTypeOf_unsupported _ hunsupported
      refine hload.trans ?_
      cases hcart : cartTypeOf (image.getD 0x147 0)
      case none => rfl
      case some row =>
        rw [hcart] at hrow
        exact if_pos hrow
    all_goals
      obtain ⟨hrow, hfamily⟩ := cartTypeOf_supported _ hsupported
      rw [hrow] at hload
      dsimp only at hload
      rw [hfamily] at hload
    case truncated => exact ⟨_, hload.trans (if_pos hshort)⟩
    case loaded =>
      refine ⟨_, hload.trans (if_neg (Nat.not_lt.2 hlong)), rfl, fun k _ => buildCart_rom _ image save rtcSave h k,
        fun bytes k hsave hbattery _ hk => ?_, fun hrom => buildCart_romOnly image save rtcSave h hrom,
        fun hmbc1 => buildCart_mbc1 image save rtcSave h hmbc1, fun hmbc3 => buildCart_mbc3 image save rtcSave h hmbc3⟩
      subst hsave
      exact loadRam_save bytes hbattery hk
  case read => rw [busRead_cartRom hboot ha, romOffset_romOnly h]
  case window =>
    have hwindow := ramWindow_romOnly h addr.toNat
    by_cases hnone : s.cart.cap.ramSize = 0
    · rw [if_pos hnone] at hwindow
      rw [if_pos hnone, if_pos hnone]
      exact externalNothing ⟨hlow, hhigh⟩ hwindow (noRam_of_not_mbc3 (by simp [h]) _ v)
    · rw [if_neg hnone] at hwindow
      rw [if_neg hnone, if_neg hnone]
      exact externalRam ⟨hlow, hhigh⟩ hwindow v

end Sys2Proof.Proofs
end
